-- ==== Sys2Proof/Syntax.lean ====
section
/-!
DEFINITION. The command set of PCK: one constructor per row of spec/opcode_table.json, in the table's order
(spec 30_encoding.md rule R116). An operand is the OPERAND VALUE of R111's table, the integer the rules compute with
and the assembler writes (R117), not the raw field.
-/

namespace Sys2Proof

/-- The 23 commands of R116. -/
inductive Instr where
  /-- `NOP` (44_arith.md R260). -/
  | nop
  /-- `SUPD c, #x`: sample update (41_sensor.md R141). -/
  | supd (c : Nat) (x : Int)
  /-- `SGET c`: get average (R144). -/
  | sget (c : Nat)
  /-- `SCLR c`: clear channel (R145). -/
  | sclr (c : Nat)
  /-- `TICK`: software tick (R151). -/
  | tick
  /-- `PCHK`: protection check (42_protection.md R180). -/
  | pchk
  /-- `PREN`: re-enable (R181). -/
  | pren
  /-- `PSHD #r`: software shutdown (R182). -/
  | pshd (r : Nat)
  /-- `OSET o, #b`: set output (R183). -/
  | oset (o : Nat) (b : Bool)
  /-- `CSTEP #x`: compensator step (43_control.md R201). -/
  | cstep (x : Int)
  /-- `CRST`: compensator reset (R210). -/
  | crst
  /-- `GSTEP #e`: gradient step (R221). -/
  | gstep (e : Int)
  /-- `GFRC`: forced trigger (R222). -/
  | gfrc
  /-- `DROOP #i`: droop term (R225). -/
  | droop (i : Int)
  /-- `ADD`: wrapping add (44_arith.md R241). -/
  | add
  /-- `SUB`: wrapping subtract (R242). -/
  | sub
  /-- `ADDS`: saturating add (R243). -/
  | adds
  /-- `SUBS`: saturating subtract (R244). -/
  | subs
  /-- `MUL`: full signed multiply (R245). -/
  | mul
  /-- `MULSC #k`: scaled fixed-point multiply (R246). -/
  | mulsc (k : Nat)
  /-- `SAT #n`: saturate to n bits (R247); `n` is the width 1..32, the field holds `n - 1`. -/
  | sat (n : Nat)
  /-- `CLAMP`: clamp to a range (R248). -/
  | clamp
  /-- `DIVT`: truncating divide (R249). -/
  | divt
deriving DecidableEq, Repr

end Sys2Proof
end

