-- ==== Sys2Proof/WellFormed.lean ====
section
/-!
DEFINITION. Which commands an assembler accepts (spec 30_encoding.md rule R117): the operand ranges of R111's forms.
An index is checked against 0..255 here, the width of the field; whether the channel or the output exists is checked
when the command runs (R112).
-/

namespace Sys2Proof

/-- R117: "an index above 255" is refused. -/
def indexOk (c : Nat) : Bool := decide (c ≤ 255)

/-- R117: "a form-`I` or form-`CI` immediate outside −32768..32767" is refused. -/
def immOk (v : Int) : Bool := decide (-32768 ≤ v) && decide (v ≤ 32767)

/-- R117: "a reason outside 0..255" is refused. -/
def reasonOk (r : Nat) : Bool := decide (r ≤ 255)

/-- R117: "a shift outside 0..63" is refused. -/
def shiftOk (k : Nat) : Bool := decide (k ≤ 63)

/-- R117: "a width outside 1..32" is refused. -/
def widthOk (n : Nat) : Bool := decide (1 ≤ n) && decide (n ≤ 32)

/-- The well-formed commands of R117. A level other than 0 or 1 cannot be written: it is a `Bool`. -/
def Instr.wf : Instr → Bool
  | .nop => true
  | .supd c x => indexOk c && immOk x
  | .sget c => indexOk c
  | .sclr c => indexOk c
  | .tick => true
  | .pchk => true
  | .pren => true
  | .pshd r => reasonOk r
  | .oset o _ => indexOk o
  | .cstep x => immOk x
  | .crst => true
  | .gstep e => immOk e
  | .gfrc => true
  | .droop i => immOk i
  | .add => true
  | .sub => true
  | .adds => true
  | .subs => true
  | .mul => true
  | .mulsc k => shiftOk k
  | .sat n => widthOk n
  | .clamp => true
  | .divt => true

end Sys2Proof
end

