-- ==== Sys2Proof/Word.lean ====
section
/-!
DEFINITION. The word types of PCK (spec 00_scope.md rule R4: every width is fixed, none is a parameter).
-/

namespace Sys2Proof

/-- A 32-bit bus word or 32-bit register (20_memory.md R81). -/
abbrev Word := BitVec 32

/-- A 16-bit value: a sample, a compensator coefficient, a stepper threshold or counter (R4). -/
abbrev Half := BitVec 16

/-- A byte offset on the register bus, `addr[12:0]` (20_memory.md R80). -/
abbrev Addr := BitVec 13

end Sys2Proof
end

