-- ==== Sys2Proof/Decode.lean ====
section
/-!
DEFINITION. The command word of PCK (spec 30_encoding.md rules R110 to R116): its three fields, the decoder, the
operand forms with the bits each one uses, and the encoder. A command is one 32-bit word of a `BusWrite` to `CMD`, so no
byte order arises (20_memory.md R82).
-/

namespace Sys2Proof

/-- `OP = w[31:24]` (R110). -/
def opField (w : Word) : BitVec 8 := w.extractLsb' 24 8

/-- `IDX = w[23:16]` (R110). -/
def idxField (w : Word) : BitVec 8 := w.extractLsb' 16 8

/-- `IMM = w[15:0]` (R110). -/
def immField (w : Word) : Half := w.extractLsb' 0 16

/-- Forms `C`, `CI`, `OB`: the index `zext(IDX)` (R111). -/
def indexOperand (w : Word) : Nat := (idxField w).toNat

/-- Forms `I`, `CI`: the immediate `sext_16(IMM)` (R111). -/
def signedOperand (w : Word) : Int := (immField w).toInt

/-- Form `R`: the reason `zext(IMM[7:0])`, bits 15:8 ignored (R111). -/
def reasonOperand (w : Word) : Nat := (w.extractLsb' 0 8).toNat

/-- Form `OB`: the level `IMM[0]`, bits 15:1 ignored (R111). -/
def levelOperand (w : Word) : Bool := w.getLsbD 0

/-- Form `K`: the shift `zext(IMM[5:0])`, bits 15:6 ignored (R111). -/
def shiftOperand (w : Word) : Nat := (w.extractLsb' 0 6).toNat

/-- Form `W`: the width `zext(IMM[4:0]) + 1`, bits 15:5 ignored (R111). -/
def widthOperand (w : Word) : Nat := (w.extractLsb' 0 5).toNat + 1

/-- Why a word is no command. -/
inductive DecodeError where
  /-- `OP` is one of the 233 undefined values (R113); writing it raises `ILLEGAL_OP`. Safe: the spec's own case. -/
  | undefinedOpcode (op : Nat)
deriving DecidableEq, Repr

/-- R113, R115: decoding looks only at `OP`, and every word is exactly one command or undefined. -/
def decode (w : Word) : Except DecodeError Instr :=
  match (opField w).toNat with
  | 0x00 => .ok .nop
  | 0x01 => .ok (.supd (indexOperand w) (signedOperand w))
  | 0x02 => .ok (.sget (indexOperand w))
  | 0x03 => .ok (.sclr (indexOperand w))
  | 0x04 => .ok .tick
  | 0x10 => .ok .pchk
  | 0x11 => .ok .pren
  | 0x12 => .ok (.pshd (reasonOperand w))
  | 0x13 => .ok (.oset (indexOperand w) (levelOperand w))
  | 0x20 => .ok (.cstep (signedOperand w))
  | 0x21 => .ok .crst
  | 0x22 => .ok (.gstep (signedOperand w))
  | 0x23 => .ok .gfrc
  | 0x24 => .ok (.droop (signedOperand w))
  | 0x30 => .ok .add
  | 0x31 => .ok .sub
  | 0x32 => .ok .adds
  | 0x33 => .ok .subs
  | 0x34 => .ok .mul
  | 0x35 => .ok (.mulsc (shiftOperand w))
  | 0x36 => .ok (.sat (widthOperand w))
  | 0x37 => .ok .clamp
  | 0x38 => .ok .divt
  | op => .error (.undefinedOpcode op)

/-- The 23 opcode values of R116, family by family (R114); the other 233 are undefined (R113). -/
def definedOpcodes : List Nat :=
  [0x00, 0x01, 0x02, 0x03, 0x04] ++ [0x10, 0x11, 0x12, 0x13] ++ [0x20, 0x21, 0x22, 0x23, 0x24] ++
    [0x30, 0x31, 0x32, 0x33, 0x34, 0x35, 0x36, 0x37, 0x38]

/-- The operand forms of R111. -/
inductive Form where
  | N | C | CI | I | R | OB | K | W
deriving DecidableEq, Repr

/-- The bits of the word a form uses, the opcode's among them; the others are ignored (R111). -/
def Form.usedBits : Form → Word
  | .N => 0xFF000000#32
  | .C => 0xFFFF0000#32
  | .CI => 0xFFFFFFFF#32
  | .I => 0xFF00FFFF#32
  | .R => 0xFF0000FF#32
  | .OB => 0xFFFF0001#32
  | .K => 0xFF00003F#32
  | .W => 0xFF00001F#32

/-- The form column of R116. -/
def Instr.form : Instr → Form
  | .nop => .N
  | .supd _ _ => .CI
  | .sget _ => .C
  | .sclr _ => .C
  | .tick => .N
  | .pchk => .N
  | .pren => .N
  | .pshd _ => .R
  | .oset _ _ => .OB
  | .cstep _ => .I
  | .crst => .N
  | .gstep _ => .I
  | .gfrc => .N
  | .droop _ => .I
  | .add => .N
  | .sub => .N
  | .adds => .N
  | .subs => .N
  | .mul => .N
  | .mulsc _ => .K
  | .sat _ => .W
  | .clamp => .N
  | .divt => .N

/-- The opcode column of R116. -/
def Instr.opcode : Instr → Nat
  | .nop => 0x00
  | .supd _ _ => 0x01
  | .sget _ => 0x02
  | .sclr _ => 0x03
  | .tick => 0x04
  | .pchk => 0x10
  | .pren => 0x11
  | .pshd _ => 0x12
  | .oset _ _ => 0x13
  | .cstep _ => 0x20
  | .crst => 0x21
  | .gstep _ => 0x22
  | .gfrc => 0x23
  | .droop _ => 0x24
  | .add => 0x30
  | .sub => 0x31
  | .adds => 0x32
  | .subs => 0x33
  | .mul => 0x34
  | .mulsc _ => 0x35
  | .sat _ => 0x36
  | .clamp => 0x37
  | .divt => 0x38

/-- The layout of R110: `OP`, `IDX` and `IMM` side by side. -/
def commandWord (op : Nat) (idx : Nat) (imm : Half) : Word :=
  BitVec.ofNat 8 op ++ BitVec.ofNat 8 idx ++ imm

/-- The `IDX` an assembler writes: the index of forms `C`, `CI` and `OB`, else 0 (R117 sets every ignored bit to 0). -/
def Instr.idxBits : Instr → Nat
  | .supd c _ => c
  | .sget c => c
  | .sclr c => c
  | .oset o _ => o
  | .nop | .tick | .pchk | .pren | .pshd _ | .cstep _ | .crst | .gstep _ | .gfrc | .droop _ => 0
  | .add | .sub | .adds | .subs | .mul | .mulsc _ | .sat _ | .clamp | .divt => 0

/-- The `IMM` an assembler writes (R111, R117); form `W` holds `n - 1`. -/
def Instr.immBits : Instr → Half
  | .supd _ x => BitVec.ofInt 16 x
  | .pshd r => BitVec.ofNat 16 r
  | .oset _ b => (BitVec.ofBool b).setWidth 16
  | .cstep x => BitVec.ofInt 16 x
  | .gstep e => BitVec.ofInt 16 e
  | .droop i => BitVec.ofInt 16 i
  | .mulsc k => BitVec.ofNat 16 k
  | .sat n => BitVec.ofNat 16 (n - 1)
  | .nop | .sget _ | .sclr _ | .tick | .pchk | .pren | .crst | .gfrc => 0#16
  | .add | .sub | .adds | .subs | .mul | .clamp | .divt => 0#16

/-- The word an assembler produces for a well-formed command (R116, R117). -/
def encode (i : Instr) : Word := commandWord i.opcode i.idxBits i.immBits

/-- R117: an assembler refuses a command whose operands are out of range. -/
def assemble (i : Instr) : Option Word := if i.wf then some (encode i) else none

/-- The instruction the decoder reads from an opcode-table word: its bits are the bits of the 32-bit command word, and
bits above `nbits` are 0. -/
def decodeTableWord (nbits w : Nat) : Option Instr :=
  match decode (BitVec.ofNat 32 (w % 2 ^ nbits)) with
  | .ok i => some i
  | .error _ => none

end Sys2Proof
end

