-- ==== Sys2Proof/Machine/Notation.lean ====
section
/-!
DEFINITION. The notation of spec 00_scope.md rule R5 over mathematical integers. Nothing wraps silently: every narrowing
in the model is one of these, followed by `BitVec.ofInt` or `BitVec.ofNat` at the register's width.
-/

namespace Sys2Proof.Machine

/-- `sext_N(v)`: `v` read as a signed N-bit two's-complement value. -/
def sext {w : Nat} (v : BitVec w) : Int := v.toInt

/-- `wrap_N(v)`: `v` reduced modulo `2^N` into `[−2^(N−1), 2^(N−1)−1]`. -/
def wrap (n : Nat) (v : Int) : Int := v.bmod (2 ^ n)

/-- `sat_N(v)`: `min(max(v, −2^(N−1)), 2^(N−1)−1)`. -/
def sat (n : Nat) (v : Int) : Int := min (max v (-(2 ^ (n - 1)))) (2 ^ (n - 1) - 1)

/-- `clamp(v, lo, hi)`: `min(max(v, lo), hi)`, which is `hi` when `lo > hi`. -/
def clamp (v lo hi : Int) : Int := min (max v lo) hi

/-- `tdiv(a, b)`: the quotient truncated toward zero. -/
def tdiv (a b : Int) : Int := Int.tdiv a b

/-- `trem(a, b)`: `a − b·tdiv(a, b)`, with the sign of `a`. -/
def trem (a b : Int) : Int := a - b * tdiv a b

/-- `m[i] <- b` on a register of one bit per channel or output. -/
def writeBit (m : BitVec 16) (i : Nat) (b : Bool) : BitVec 16 :=
  if b then m ||| BitVec.twoPow 16 i else m &&& ~~~BitVec.twoPow 16 i

/-- The register with a 1 at every index of a list. -/
def bitsOf (is : List Nat) : BitVec 16 := is.foldl (fun m i => writeBit m i true) 0#16

/-- The register with a 1 at every index below `n`: the existing bits of a per-channel or per-output register. -/
def lowBits (n : Nat) : BitVec 16 := BitVec.ofNat 16 (2 ^ n - 1)

end Sys2Proof.Machine
end

