-- ==== Sys2Proof/Config.lean ====
section
/-!
DEFINITION. What an implementation of PCK fixes when it is built: the parameters of spec 00_scope.md rule R3, and the
two parameters the spec leaves OPEN (92_eei_decisions.md D53, D54), on which no rule depends.
-/

namespace Sys2Proof

/-- The build parameters of R3. They stand in `State` (field `params`), because `exec` and `step` take no other
argument; no step changes them (log entry 1). -/
structure Params where
  /-- `N_CH`, the number of sensor channels. -/
  nCh       : Nat
  /-- `N_OUT`, the number of switched outputs. -/
  nOut      : Nat
  /-- `COEF_MAX`, the largest compensator coefficient-vector length. -/
  coefMax   : Nat
  /-- `MIDPOINT`, subtracted from a sample whose channel has `OFS` set. -/
  midpoint  : Nat
  /-- `DUTY_SCALE`, written `S`: raw duty units per 1 %. -/
  dutyScale : Nat
  /-- `SF_LOG2`, log2 of the droop `SCALE_FACTOR`. -/
  sfLog2    : Nat
deriving DecidableEq, Repr

/-- The default column of R3's table. -/
def Params.standard : Params :=
  { nCh := 8, nOut := 4, coefMax := 8, midpoint := 512, dutyScale := 1, sfLog2 := 10 }

/-- The legal values column of R3's table. -/
abbrev Params.Legal (p : Params) : Prop :=
  (1 ≤ p.nCh ∧ p.nCh ≤ 16) ∧ p.nOut ≤ p.nCh ∧ (1 ≤ p.coefMax ∧ p.coefMax ≤ 8) ∧
    p.midpoint ≤ 65535 ∧ (1 ≤ p.dutyScale ∧ p.dutyScale ≤ 65535) ∧ p.sfLog2 ≤ 31

/-- `PCK_BASE`, where the block sits in the host's address space: an OPEN parameter (R84, D53). It has no body, so
nothing can rest on a value of it. -/
opaque Config.pckBase : Nat

/-- `TICK_PERIOD`, the time between two ticks in a unit the spec does not name: an OPEN parameter (D54, R321). It has
no body, and no rule reads it. -/
opaque Config.tickPeriod : Nat

/-- The host's address of the register at `off`: every offset is relative to `PCK_BASE` (R84). -/
def Config.hostAddress (off : BitVec 13) : Nat := Config.pckBase + off.toNat

/-- The duration of `n` stepper calls under the tick control phase: `threshold × tick period` (R321). -/
def Config.ticksDuration (n : Nat) : Nat := n * Config.tickPeriod

end Sys2Proof
end

