-- ==== Sys2Proof/Machine/State.lean ====
section
/-!
DEFINITION. The state of PCK as plain data (spec 10_state.md): every register, field, buffer slot and history entry of
the register map, the build parameters, the input ports, the bus response, and the queue of agent steps still to come.
-/

namespace Sys2Proof.Machine

/-! ### Sensor channels (10_state.md R40 to R46) -/

/-- `CH_CFG.CMP`, the comparator mode (R41). -/
inductive Cmp where
  | off | above | band | below
deriving DecidableEq, Repr

/-- `CH_CFG.CLASS`: the kind of quantity, which decides the reason a breach latches (R41). -/
inductive ChClass where
  | current | temperature
deriving DecidableEq, Repr

/-- The fields of `CH_CFG[c]` (R41). `WIN_LOG2` is 0..5: 6 and 7 are never stored. -/
structure ChCfg where
  en      : Bool
  winLog2 : Fin 6
  ofs     : Bool
  cmp     : Cmp
  cls     : ChClass
deriving DecidableEq, Repr

/-- One sensor channel `ch[c]` (R40). -/
structure Channel where
  cfg   : ChCfg
  /-- `CH_LIMIT`, 32-bit signed (R43). -/
  limit : Word
  /-- `CH_ACC`, 32-bit signed (R44). -/
  acc   : Word
  /-- `CH_CUR`, 5 bits unsigned (R44). -/
  cur   : BitVec 5
  /-- `CH_AVG`, 32-bit signed (R44). -/
  avg   : Word
  /-- `BUF[c][0..31]`, 16-bit signed slots (R45). -/
  buf   : Vector Half 32
deriving DecidableEq, Repr

/-- `CH_CFG` after reset: disabled, W = 1, no offset, comparator off, current class (R41). -/
def ChCfg.reset : ChCfg := { en := false, winLog2 := 0, ofs := false, cmp := .off, cls := .current }

/-- A channel after reset: all of it 0 (R40, R76). -/
def Channel.reset : Channel :=
  { cfg := ChCfg.reset, limit := 0#32, acc := 0#32, cur := 0#5, avg := 0#32, buf := Vector.replicate 32 0#16 }

/-! ### Status (10_state.md R26) -/

/-- The stored fields of `STATUS`: `LATCHED` is a copy of `PROT_STAT.LATCHED` and is not stored twice. -/
structure Status where
  /-- Bits 4:0: `ERR_OP`, `ERR_IDX`, `ERR_DIV0`, `ERR_CFG`, `ERR_BUS`. -/
  err     : BitVec 5
  /-- Bits 11:8: `LAST_ERR`. -/
  lastErr : BitVec 4
  /-- Bit 16: `Z`. -/
  z       : Bool
  /-- Bit 17: `N`. -/
  n       : Bool
  /-- Bit 18: `V`. -/
  v       : Bool
deriving DecidableEq, Repr

/-! ### Protection (10_state.md R50 to R55) -/

/-- `PROT_CFG.POLICY` (R50). -/
inductive Policy where
  /-- 0: a breach latches a global shutdown. -/
  | latching
  /-- 1: a breach opens the affected outputs. -/
  | tripping
deriving DecidableEq, Repr

/-- The interlock's registers. -/
structure Prot where
  /-- `PROT_CFG.EN`. -/
  en       : Bool
  /-- `PROT_CFG.POLICY`. -/
  policy   : Policy
  /-- `PROT_STAT.LATCHED`. -/
  latched  : Bool
  /-- `PROT_STAT.REASON`. -/
  reason   : BitVec 8
  /-- `AGG_MASK`, bits `N_CH−1:0`. -/
  aggMask  : BitVec 16
  /-- `AGG_LIMIT`, 32-bit signed. -/
  aggLimit : Word
  /-- `OUT_EN`, bits `N_OUT−1:0`. -/
  outEn    : BitVec 16
  /-- `TRIP`, bits `N_CH−1:0`. -/
  trip     : BitVec 16
  /-- `TRIP.TRIP_AGG`, bit 31. -/
  tripAgg  : Bool
deriving DecidableEq, Repr

/-! ### Control (10_state.md R60 to R72) -/

/-- `CTRL_CFG.MODE`; 3 is written as 0 and never stored (R60). -/
inductive Mode where
  | off | comp | gd
deriving DecidableEq, Repr

/-- `CTRL_CFG` and the registers both strategies share (R60 to R64). -/
structure Ctrl where
  mode       : Mode
  /-- `FB_CH`, 0..N_CH−1. -/
  fbCh       : BitVec 4
  droopEn    : Bool
  droopAdd   : Bool
  /-- `DROOP_CH`, 0..N_CH−1. -/
  droopCh    : BitVec 4
  pwmEn      : Bool
  /-- `DUTY`, always in `[S, 99·S]`. -/
  duty       : Word
  vref       : Word
  vrefEff    : Word
  droopScale : Word
deriving DecidableEq, Repr

/-- The gradient-descent stepper (R65 to R69). -/
structure Gd where
  /-- `GD_SETTLE`. -/
  settle : Half
  /-- `GD_AVG`. -/
  avg    : Half
  /-- `GD_CNT.SET_CNT`. -/
  setCnt : Half
  /-- `GD_CNT.AVG_CNT`. -/
  avgCnt : Half
  /-- `GD_ACC`, 32-bit signed. -/
  acc    : Word
  /-- `GD_STAT.FORCE`. -/
  force  : Bool
deriving DecidableEq, Repr

/-- The compensator (R70 to R72). The four lists have exactly `COEF_MAX` entries; index 0 of a history is the newest. -/
structure Comp where
  /-- `COMP_LEN.NUM_LEN`. -/
  numLen : BitVec 4
  /-- `COMP_LEN.DEN_LEN`. -/
  denLen : BitVec 4
  num    : List Half
  den    : List Half
  xh     : List Half
  yh     : List Word
deriving DecidableEq, Repr

/-! ### Agents, ports and the bus (10_state.md R20, R74, R75) -/

/-- The input ports a step sees: `sample_i` and `shdn_i` (R74). A channel left out of the list samples 0 (R118). -/
structure Ports where
  sample : List Half
  shdn   : Bool
deriving DecidableEq, Repr

/-- What an agent does in one step (R20): the host reads or writes the bus, the tick source ticks, or reset is asserted. -/
inductive Action where
  | busRead (a : Addr)
  | busWrite (a : Addr) (v : Word)
  | tick
  | reset
deriving DecidableEq, Repr

/-- One agent step, with the levels on the input ports while it runs. -/
structure Stimulus where
  ports  : Ports
  action : Action
deriving DecidableEq, Repr

/-- The answer of the bus in an agent step (R75 `rdata`, `err`; R85). The spec gives a write no read data. -/
inductive BusResp where
  /-- The step was no bus transfer. -/
  | idle
  | read (rdata : Word) (err : Bool)
  | write (err : Bool)
deriving DecidableEq, Repr

/-- The five errors of 60_exceptions.md R272. A step that raises one completes: none of them is a `Fault`. -/
inductive Err where
  | illegalOp | badIndex | divZero | badConfig | busError
deriving DecidableEq, Repr

/-! ### The machine -/

/-- All of PCK's state. -/
structure State where
  /-- The build parameters (00_scope.md R3); no step changes them. -/
  params   : Params
  /-- The model's own: the agents' steps still to come, the next one first, in the one total order of 20_memory.md R91. -/
  inputs   : List Stimulus
  /-- The model's own: the levels on `sample_i` and `shdn_i` in the last agent step. -/
  ports    : Ports
  /-- The model's own: what the bus answered in the last agent step. -/
  resp     : BusResp
  status   : Status
  /-- `EVENTS[2:0]` (R27). -/
  events   : BitVec 3
  /-- `IRQ_EN[2:0]` (R28). -/
  irqEn    : BitVec 3
  /-- `TICK_CNT` (R29). -/
  tickCnt  : Word
  arg0     : Word
  arg1     : Word
  arg2     : Word
  result   : Word
  resultHi : Word
  /-- The channels `ch[0..N_CH−1]`: exactly `N_CH` entries. -/
  ch       : List Channel
  prot     : Prot
  ctrl     : Ctrl
  gd       : Gd
  comp     : Comp
deriving DecidableEq, Repr

/-- The reasons a step can stop the machine with a fault: none. Nobody raises one. The spec says that `stuck` never
occurs and every step completes (93_implementation_defined.md U23), and records every error in a completed step
(60_exceptions.md R270). Having no constructor is exact, neither safe nor unsafe. -/
inductive Fault where
deriving DecidableEq, Repr

/-- The reasons a step can be refused. -/
inductive Refusal where
  /-- Raised by `exec` for an instruction that has no meaning yet; no arm raises it now. Safe: the model stops where the
  hardware goes on. -/
  | notModelled (mnemonic : String)
deriving DecidableEq, Repr

/-! ### Reset (10_state.md R76, 70_reset_and_hazards.md R300) -/

/-- `STATUS` after reset: 0. -/
def Status.reset : Status := { err := 0#5, lastErr := 0#4, z := false, n := false, v := false }

/-- The interlock after reset: Armed, comparators enabled, latching policy, everything else 0. -/
def Prot.reset : Prot :=
  { en := true, policy := .latching, latched := false, reason := 0#8, aggMask := 0#16, aggLimit := 0#32,
    outEn := 0#16, trip := 0#16, tripAgg := false }

/-- The control registers after reset: MODE OFF, `DUTY = S`. -/
def Ctrl.reset (p : Params) : Ctrl :=
  { mode := .off, fbCh := 0#4, droopEn := false, droopAdd := false, droopCh := 0#4, pwmEn := false,
    duty := BitVec.ofNat 32 p.dutyScale, vref := 0#32, vrefEff := 0#32, droopScale := 0#32 }

/-- The stepper after reset: `GD_AVG = 1`, the rest 0. -/
def Gd.reset : Gd :=
  { settle := 0#16, avg := 1#16, setCnt := 0#16, avgCnt := 0#16, acc := 0#32, force := false }

/-- The compensator after reset: the identity, with histories as `CRST` would seed them. -/
def Comp.reset (p : Params) : Comp :=
  { numLen := 1#4, denLen := 1#4,
    num := 1#16 :: List.replicate (p.coefMax - 1) 0#16,
    den := 1#16 :: List.replicate (p.coefMax - 1) 0#16,
    xh := List.replicate p.coefMax 0#16,
    yh := List.replicate p.coefMax (BitVec.ofNat 32 p.dutyScale) }

/-- The reset state of a block built with the parameters `p`: R76's table. The queue, the ports and the bus answer are
the model's own fields; their values here are a DESIGN CHOICE (log entries 2, 3, 4). -/
def State.resetWith (p : Params) : State :=
  { params := p, inputs := [], ports := { sample := [], shdn := false }, resp := .idle,
    status := Status.reset, events := 0#3, irqEn := 0#3, tickCnt := 0#32,
    arg0 := 0#32, arg1 := 0#32, arg2 := 0#32, result := 0#32, resultHi := 0#32,
    ch := List.replicate p.nCh Channel.reset,
    prot := Prot.reset, ctrl := Ctrl.reset p, gd := Gd.reset, comp := Comp.reset p }

/-- The machine right after reset, built with the default parameters of 00_scope.md R3. -/
def State.reset : State := State.resetWith Params.standard

end Sys2Proof.Machine
end

