-- ==== Sys2Proof/Machine/Ops.lean ====
section
/-!
DEFINITION. The named reads and updates of the state that the meanings share. PCK has no trap and no return from one
(spec 60_exceptions.md R270): what stands in their place is `recordError`, the one operation of every error (R271), and
`clearErrors`, the host's W1C write that ends it (R273).
-/

namespace Sys2Proof.Machine

/-- The cause code of an error (R272). -/
def Err.code : Err → Nat
  | .illegalOp => 1
  | .badIndex => 2
  | .divZero => 3
  | .badConfig => 4
  | .busError => 5

/-- `EVENTS.EV_LATCH`, bit 0 (10_state.md R27). -/
def evLatch : BitVec 3 := 0b001#3

/-- `EVENTS.EV_TRIP`, bit 1. -/
def evTrip : BitVec 3 := 0b010#3

/-- `EVENTS.EV_ERR`, bit 2. -/
def evErr : BitVec 3 := 0b100#3

/-- Sets event bits; they are sticky (R27). -/
def raiseEvent (e : BitVec 3) (s : State) : State := { s with events := s.events ||| e }

/-- `record_error(k)` (60_exceptions.md R271): the sticky `ERR_*` bit, `LAST_ERR` and `EV_ERR`, and nothing else. -/
def recordError (e : Err) (s : State) : State :=
  raiseEvent evErr
    { s with status := { s.status with
        err := s.status.err ||| BitVec.twoPow 5 (e.code - 1), lastErr := BitVec.ofNat 4 e.code } }

/-- The W1C write to `STATUS` (R273): clears the `ERR_*` bits written as 1, and `LAST_ERR` when none is left. -/
def clearErrors (mask : BitVec 5) (s : State) : State :=
  let err := s.status.err &&& ~~~mask
  { s with status := { s.status with err := err, lastErr := if err = 0#5 then 0#4 else s.status.lastErr } }

/-- The end of an operation that may raise (00_scope.md R7): with an error, all of its writes are abandoned and only the
recording is left. -/
def settle (s : State) (r : Except Err State) : State :=
  match r with
  | .ok t => t
  | .error e => recordError e s

/-- A command always completes in its step (20_memory.md R90, 93_implementation_defined.md U23). -/
def complete (s : State) (r : Except Err State) : Host.Outcome State Fault Refusal := .next (settle s r)

/-- `ch[c]`. Every caller has checked `c < N_CH`, or reads a legal field; `ch` has `N_CH` entries. -/
def State.chan (s : State) (c : Nat) : Channel := s.ch.getD c Channel.reset

/-- `ch[c] <- x`. -/
def State.setChan (s : State) (c : Nat) (x : Channel) : State := { s with ch := s.ch.set c x }

/-- `RESULT <- r` (10_state.md R31). -/
def withResult (r : Word) (s : State) : State := { s with result := r }

/-- `RESULT_HI <- r` (R31). -/
def withResultHi (r : Word) (s : State) : State := { s with resultHi := r }

/-- `S`, the parameter `DUTY_SCALE`, as an integer. -/
def State.scale (s : State) : Int := s.params.dutyScale

/-- `DUTY <- clamp(v, S, 99·S)`: the one write of `DUTY` (43_control.md R200). -/
def setDuty (v : Int) (s : State) : State :=
  { s with ctrl := { s.ctrl with duty := BitVec.ofInt 32 (clamp v s.scale (99 * s.scale)) } }

/-- `VREF_EFF <- v` (10_state.md R63). -/
def setVrefEff (v : Int) (s : State) : State :=
  { s with ctrl := { s.ctrl with vrefEff := BitVec.ofInt 32 v } }

/-- Armed to Latched with a reason, and `EV_LATCH` (42_protection.md R173, R177, R182). -/
def enterLatch (reason : BitVec 8) (s : State) : State :=
  raiseEvent evLatch { s with prot := { s.prot with latched := true, reason := reason } }

/-- The sample of channel `c` on the input port, `sext_16(sample_i[c])` (10_state.md R74). -/
def State.sample (s : State) (c : Nat) : Int := sext (s.ports.sample.getD c 0#16)

/-- The start of an agent step: it leaves the queue, the ports show its levels, and the bus has not answered. -/
def present (st : Stimulus) (rest : List Stimulus) (s : State) : State :=
  { s with inputs := rest, ports := st.ports, resp := .idle }

/-- The bus answers the transfer of this step (10_state.md R75). -/
def respond (r : BusResp) (s : State) : State := { s with resp := r }

/-- The reset step (70_reset_and_hazards.md R300): every piece of PCK's state takes its reset value. The parameters are
built in, and the queue and the ports belong to the agents, so they stay. -/
def resetStep (s : State) : State :=
  { State.resetWith s.params with inputs := s.inputs, ports := s.ports }

end Sys2Proof.Machine
end

