-- ==== Sys2Proof/Machine/Operands.lean ====
section
/-!
DEFINITION. The operands of commands: the operand registers read as signed integers (spec 44_arith.md), and the index
checks of forms `C`, `CI` and `OB`, made before anything else (30_encoding.md R112).
-/

namespace Sys2Proof.Machine

/-- `A0 = sext_32(ARG0)`. -/
def State.a0 (s : State) : Int := sext s.arg0

/-- `A1 = sext_32(ARG1)`. -/
def State.a1 (s : State) : Int := sext s.arg1

/-- `A2 = sext_32(ARG2)`. -/
def State.a2 (s : State) : Int := sext s.arg2

/-- Forms `C` and `CI`: `c ≥ N_CH` raises `BAD_INDEX` and nothing else happens (R112). -/
def withChannel (c : Nat) (s : State) (f : Channel → State) : Except Err State :=
  if c < s.params.nCh then .ok (f (s.chan c)) else .error .badIndex

/-- Form `OB`: `o ≥ N_OUT` raises `BAD_INDEX` (R112). -/
def withOutput (o : Nat) (s : State) (t : State) : Except Err State :=
  if o < s.params.nOut then .ok t else .error .badIndex

end Sys2Proof.Machine
end

