-- ==== Sys2Proof/Machine/Sensor.lean ====
section
/-!
DEFINITION. The sensor family (spec 41_sensor.md): the moving-average update and `SUPD`, `SGET`, `SCLR`. `TICK` stands
in Machine/Tick.lean, after the protection and control phases it runs.
-/

namespace Sys2Proof.Machine

/-- The window `W = 2^WIN_LOG2` (R142). -/
def Channel.window (x : Channel) : Nat := 2 ^ x.cfg.winLog2.val

/-- Slot `k` of the window buffer (10_state.md R45). -/
def Channel.slot (x : Channel) (k : Nat) : Half := x.buf.toList.getD k 0#16

/-- What the update stores for a sample: with `OFS`, `sat_16(s_in − MIDPOINT)` (R142). -/
def storedSample (p : Params) (x : Channel) (sIn : Int) : Int :=
  if x.cfg.ofs then sat 16 (sIn - p.midpoint) else sIn

/-- `chan_update(c, s_in)` on the channel itself (R142): subtract oldest, store newest, add newest, advance the cursor,
recompute the average from the accumulator. The returned average is the new `AVG`. -/
def chanUpdate (p : Params) (sIn : Int) (x : Channel) : Channel :=
  let s := storedSample p x sIn
  let acc := sext x.acc - sext (x.slot x.cur.toNat) + s
  { x with
    buf := x.buf.set x.cur.toNat (BitVec.ofInt 16 s) x.cur.isLt
    acc := BitVec.ofInt 32 acc
    cur := BitVec.ofNat 5 ((x.cur.toNat + 1) % x.window)
    avg := BitVec.ofInt 32 (tdiv acc x.window) }

/-- The clear of a channel: every slot, `ACC`, `CUR` and `AVG` to 0 (R145, 10_state.md R42). -/
def clearChannel (x : Channel) : Channel :=
  { x with buf := Vector.replicate 32 0#16, acc := 0#32, cur := 0#5, avg := 0#32 }

/-- `SUPD c, #x` (R141). It runs whatever `EN` is. -/
def execSupd (c : Nat) (smp : Int) (s : State) : Host.Outcome State Fault Refusal :=
  complete s (withChannel c s fun x =>
    let x' := chanUpdate s.params smp x
    withResult x'.avg (s.setChan c x'))

/-- `SGET c` (R144): no sample is taken. -/
def execSget (c : Nat) (s : State) : Host.Outcome State Fault Refusal :=
  complete s (withChannel c s fun x => withResult x.avg s)

/-- `SCLR c` (R145): `CH_CFG`, `CH_LIMIT` and `RESULT` stay. -/
def execSclr (c : Nat) (s : State) : Host.Outcome State Fault Refusal :=
  complete s (withChannel c s fun x => s.setChan c (clearChannel x))

end Sys2Proof.Machine
end

