-- ==== Sys2Proof/Machine/Bus.lean ====
section
/-!
DEFINITION. The register bus (spec 20_memory.md): the address map of R83, what each register reads as and what a write
to it does (10_state.md), and the bus error of R85. PCK has no memory but these registers (R80).
-/

namespace Sys2Proof.Machine

/-- The registers of R83's map. -/
inductive Reg where
  | id | param | param2 | cmd | status | events | irqEn | tickCnt | arg0 | arg1 | arg2 | result | resultHi
  | protCfg | protStat | aggMask | aggLimit | outEn | trip
  | ctrlCfg | duty | vref | vrefEff | droopScale | gdSettle | gdAvg | gdCnt | gdAcc | gdStat | compLen
  | num (i : Nat) | den (i : Nat) | xh (j : Nat) | yh (j : Nat)
  | chCfg (c : Nat) | chLimit (c : Nat) | chAvg (c : Nat) | chAcc (c : Nat) | chCur (c : Nat)
  /-- A reserved word of a channel block, offsets 0x14 to 0x1C (R44, R87): mapped, reads 0. -/
  | chReserved (c : Nat) (k : Nat)
  | buf (c : Nat) (k : Nat)
deriving DecidableEq, Repr

/-! ### The address map (R83) -/

/-- The single registers below 0x08C. -/
def lowReg (n : Nat) : Option Reg :=
  match n with
  | 0x000 => some .id
  | 0x004 => some .param
  | 0x008 => some .param2
  | 0x00C => some .cmd
  | 0x010 => some .status
  | 0x014 => some .events
  | 0x018 => some .irqEn
  | 0x01C => some .tickCnt
  | 0x020 => some .arg0
  | 0x024 => some .arg1
  | 0x028 => some .arg2
  | 0x02C => some .result
  | 0x030 => some .resultHi
  | 0x040 => some .protCfg
  | 0x044 => some .protStat
  | 0x048 => some .aggMask
  | 0x04C => some .aggLimit
  | 0x050 => some .outEn
  | 0x054 => some .trip
  | 0x060 => some .ctrlCfg
  | 0x064 => some .duty
  | 0x068 => some .vref
  | 0x06C => some .vrefEff
  | 0x070 => some .droopScale
  | 0x074 => some .gdSettle
  | 0x078 => some .gdAvg
  | 0x07C => some .gdCnt
  | 0x080 => some .gdAcc
  | 0x084 => some .gdStat
  | 0x088 => some .compLen
  | _ => none

/-- An entry of a table of `bound` words; an index beyond the parameter is unmapped. -/
def tableReg (bound : Nat) (off : Nat) (f : Nat → Reg) : Option Reg :=
  if off / 4 < bound then some (f (off / 4)) else none

/-- A word of channel `c`'s block, `off` from its start. -/
def channelReg (c : Nat) (off : Nat) : Reg :=
  match off with
  | 0x00 => .chCfg c
  | 0x04 => .chLimit c
  | 0x08 => .chAvg c
  | 0x0C => .chAcc c
  | 0x10 => .chCur c
  | _ => .chReserved c (off / 4)

/-- The register at an aligned offset, by regions of R83's map. -/
def regAtOffset (p : Params) (n : Nat) : Option Reg :=
  if n < 0x0A0 then lowReg n
  else if n < 0x0C0 then tableReg p.coefMax (n - 0x0A0) .num
  else if n < 0x0E0 then tableReg p.coefMax (n - 0x0C0) .den
  else if n < 0x100 then tableReg p.coefMax (n - 0x0E0) .xh
  else if n < 0x120 then tableReg p.coefMax (n - 0x100) .yh
  else if n < 0x200 then none
  else if n < 0x400 then
    if (n - 0x200) / 0x20 < p.nCh then some (channelReg ((n - 0x200) / 0x20) ((n - 0x200) % 0x20)) else none
  else if n < 0x1000 then none
  else if n < 0x1800 then
    if (n - 0x1000) / 0x80 < p.nCh then some (.buf ((n - 0x1000) / 0x80) ((n - 0x1000) % 0x80 / 4)) else none
  else none

/-- The register an address names: `none` is a bus error, misaligned (R81) or unmapped (R83). -/
def regAt (p : Params) (a : Addr) : Option Reg :=
  if a.toNat % 4 = 0 then regAtOffset p a.toNat else none

/-! ### What a register reads as -/

/-- One bit as a field. -/
def bit (b : Bool) : BitVec 1 := BitVec.ofBool b

/-- `CH_CFG.CMP` as bits (10_state.md R41). -/
def Cmp.bits : Cmp → BitVec 2
  | .off => 0#2
  | .above => 1#2
  | .band => 2#2
  | .below => 3#2

/-- `CH_CFG.CMP` from bits (R41). -/
def Cmp.ofBits (v : BitVec 2) : Cmp :=
  match v.toNat with
  | 0 => .off
  | 1 => .above
  | 2 => .band
  | _ => .below

/-- `CTRL_CFG.MODE` as bits (R60). -/
def Mode.bits : Mode → BitVec 2
  | .off => 0#2
  | .comp => 1#2
  | .gd => 2#2

/-- `CTRL_CFG.MODE` from bits: 3 is written as 0 (R60). -/
def Mode.ofBits (v : BitVec 2) : Mode :=
  match v.toNat with
  | 1 => .comp
  | 2 => .gd
  | _ => .off

/-- `CH_CFG[c]` as a word (R41). -/
def chCfgWord (k : ChCfg) : Word :=
  0#24 ++ bit (decide (k.cls = .temperature)) ++ k.cmp.bits ++ bit k.ofs ++ BitVec.ofNat 3 k.winLog2.val ++ bit k.en

/-- `CTRL_CFG` as a word (R60). -/
def ctrlCfgWord (k : Ctrl) : Word :=
  0#15 ++ bit k.pwmEn ++ k.droopCh ++ 0#2 ++ bit k.droopAdd ++ bit k.droopEn ++ k.fbCh ++ 0#2 ++ k.mode.bits

/-- `STATUS` as a word (R26); bit 24 is the copy of `PROT_STAT.LATCHED`. -/
def statusWord (s : State) : Word :=
  0#7 ++ bit s.prot.latched ++ 0#5 ++ bit s.status.v ++ bit s.status.n ++ bit s.status.z ++
    0#4 ++ s.status.lastErr ++ 0#3 ++ s.status.err

/-- `PARAM` (R23). -/
def paramWord (p : Params) : Word :=
  0#3 ++ BitVec.ofNat 5 p.sfLog2 ++ 0#4 ++ BitVec.ofNat 4 p.coefMax ++ 0#3 ++ BitVec.ofNat 5 p.nOut ++
    0#3 ++ BitVec.ofNat 5 p.nCh

/-- `PARAM2` (R24). -/
def param2Word (p : Params) : Word := BitVec.ofNat 16 p.midpoint ++ BitVec.ofNat 16 p.dutyScale

/-- What a register reads as (10_state.md; reserved bits and words read 0, R87; `CMD` reads 0, R25). -/
def readReg (r : Reg) (s : State) : Word :=
  match r with
  | .id => 0x50434B01#32
  | .param => paramWord s.params
  | .param2 => param2Word s.params
  | .cmd => 0#32
  | .status => statusWord s
  | .events => s.events.setWidth 32
  | .irqEn => s.irqEn.setWidth 32
  | .tickCnt => s.tickCnt
  | .arg0 => s.arg0
  | .arg1 => s.arg1
  | .arg2 => s.arg2
  | .result => s.result
  | .resultHi => s.resultHi
  | .protCfg => 0#30 ++ bit (decide (s.prot.policy = .tripping)) ++ bit s.prot.en
  | .protStat => 0#16 ++ s.prot.reason ++ 0#7 ++ bit s.prot.latched
  | .aggMask => s.prot.aggMask.setWidth 32
  | .aggLimit => s.prot.aggLimit
  | .outEn => s.prot.outEn.setWidth 32
  | .trip => bit s.prot.tripAgg ++ 0#15 ++ s.prot.trip
  | .ctrlCfg => ctrlCfgWord s.ctrl
  | .duty => s.ctrl.duty
  | .vref => s.ctrl.vref
  | .vrefEff => s.ctrl.vrefEff
  | .droopScale => s.ctrl.droopScale
  | .gdSettle => s.gd.settle.setWidth 32
  | .gdAvg => s.gd.avg.setWidth 32
  | .gdCnt => s.gd.avgCnt ++ s.gd.setCnt
  | .gdAcc => s.gd.acc
  | .gdStat => 0#31 ++ bit s.gd.force
  | .compLen => 0#20 ++ s.comp.denLen ++ 0#4 ++ s.comp.numLen
  | .num i => (s.comp.num.getD i 0#16).signExtend 32
  | .den i => (s.comp.den.getD i 0#16).signExtend 32
  | .xh j => (s.comp.xh.getD j 0#16).signExtend 32
  | .yh j => s.comp.yh.getD j 0#32
  | .chCfg c => chCfgWord (s.chan c).cfg
  | .chLimit c => (s.chan c).limit
  | .chAvg c => (s.chan c).avg
  | .chAcc c => (s.chan c).acc
  | .chCur c => (s.chan c).cur.setWidth 32
  | .chReserved _ _ => 0#32
  | .buf c k => ((s.chan c).slot k).signExtend 32

/-! ### What a write does -/

/-- A written `WIN_LOG2`: 6 and 7 are stored as 5 (R41). -/
def legalWindow (v : BitVec 3) : Fin 6 := ⟨min v.toNat 5, by omega⟩

/-- A written channel number: one that does not exist is stored as `N_CH−1` (R60). -/
def legalChannel (p : Params) (v : BitVec 4) : BitVec 4 :=
  if v.toNat < p.nCh then v else BitVec.ofNat 4 (p.nCh - 1)

/-- The `CH_CFG` fields of a written word (R41). -/
def chCfgOfWord (v : Word) : ChCfg :=
  { en := v.getLsbD 0, winLog2 := legalWindow (v.extractLsb' 1 3), ofs := v.getLsbD 4,
    cmp := Cmp.ofBits (v.extractLsb' 5 2), cls := if v.getLsbD 7 then .temperature else .current }

/-- A `CH_CFG` write (R42): a changed window also clears the channel. -/
def writeChCfg (v : Word) (x : Channel) : Channel :=
  let k := chCfgOfWord v
  let y := { x with cfg := k }
  if k.winLog2 = x.cfg.winLog2 then y else clearChannel y

/-- The `CTRL_CFG` fields of a written word (R60); the other control registers stay. -/
def writeCtrlCfg (p : Params) (v : Word) (k : Ctrl) : Ctrl :=
  { k with
    mode := Mode.ofBits (v.extractLsb' 0 2), fbCh := legalChannel p (v.extractLsb' 4 4),
    droopEn := v.getLsbD 8, droopAdd := v.getLsbD 9,
    droopCh := legalChannel p (v.extractLsb' 12 4), pwmEn := v.getLsbD 16 }

/-- A write to a mapped register other than `CMD`, whose write executes a command (R89): RO registers and reserved words
ignore it (R86, R87), W1C bits written as 1 clear, WARL fields are legalised. -/
def writeReg (r : Reg) (v : Word) (s : State) : State :=
  match r with
  | .id | .param | .param2 | .cmd | .tickCnt | .result | .resultHi | .protStat | .vrefEff | .gdCnt | .gdAcc | .gdStat => s
  | .xh _ | .yh _ | .chAvg _ | .chAcc _ | .chCur _ | .chReserved _ _ | .buf _ _ => s
  | .status => clearErrors (v.extractLsb' 0 5) s
  | .events => { s with events := s.events &&& ~~~(v.extractLsb' 0 3) }
  | .irqEn => { s with irqEn := v.extractLsb' 0 3 }
  | .arg0 => { s with arg0 := v }
  | .arg1 => { s with arg1 := v }
  | .arg2 => { s with arg2 := v }
  | .protCfg =>
    { s with prot := { s.prot with en := v.getLsbD 0, policy := if v.getLsbD 1 then .tripping else .latching } }
  | .aggMask => { s with prot := { s.prot with aggMask := v.extractLsb' 0 16 &&& lowBits s.params.nCh } }
  | .aggLimit => { s with prot := { s.prot with aggLimit := v } }
  | .outEn => { s with prot := { s.prot with outEn := v.extractLsb' 0 16 &&& lowBits s.params.nOut } }
  | .trip =>
    { s with prot := { s.prot with
        trip := s.prot.trip &&& ~~~(v.extractLsb' 0 16), tripAgg := s.prot.tripAgg && !v.getLsbD 31 } }
  | .ctrlCfg => { s with ctrl := writeCtrlCfg s.params v s.ctrl }
  | .duty => setDuty (sext v) s
  | .vref => { s with ctrl := { s.ctrl with vref := v } }
  | .droopScale => { s with ctrl := { s.ctrl with droopScale := v } }
  | .gdSettle => { s with gd := { s.gd with settle := v.extractLsb' 0 16 } }
  | .gdAvg => { s with gd := { s.gd with avg := v.extractLsb' 0 16 } }
  | .compLen => { s with comp := { s.comp with numLen := v.extractLsb' 0 4, denLen := v.extractLsb' 8 4 } }
  | .num i => { s with comp := { s.comp with num := s.comp.num.set i (v.extractLsb' 0 16) } }
  | .den i => { s with comp := { s.comp with den := s.comp.den.set i (v.extractLsb' 0 16) } }
  | .chCfg c => s.setChan c (writeChCfg v (s.chan c))
  | .chLimit c => s.setChan c { s.chan c with limit := v }

/-- `BusRead(a)`: no side effect (R88) but for a bus error, which answers 0 with `err = 1` and records code 5 (R85). -/
def busRead (a : Addr) (s : State) : State :=
  match regAt s.params a with
  | some r => respond (.read (readReg r s) false) s
  | none => respond (.read 0#32 true) (recordError .busError s)

/-- `BusWrite(a, v)` to a register other than `CMD`; a bus error changes no register and records code 5 (R85). -/
def busWrite (a : Addr) (v : Word) (s : State) : State :=
  match regAt s.params a with
  | some r => respond (.write false) (writeReg r v s)
  | none => respond (.write true) (recordError .busError s)

end Sys2Proof.Machine
end

