-- ==== Sys2Proof/Machine/Control.lean ====
section
/-!
DEFINITION. The control family (spec 43_control.md): the compensator, the gradient-descent stepper, the droop term, the
control phase of the tick, and `CSTEP`, `CRST`, `GSTEP`, `GFRC`, `DROOP`.
-/

namespace Sys2Proof.Machine

/-! ### The compensator (R202) -/

/-- `Σ a[i]·b[i]` over the shorter list, signed and exact. -/
def dot {w : Nat} (a : List Half) (b : List (BitVec w)) : Int :=
  (List.zipWith (fun u v => sext u * sext v) a b).sum

/-- Is a coefficient length outside `1..COEF_MAX`? -/
def lenBad (p : Params) (n : BitVec 4) : Bool := decide (n.toNat < 1) || decide (n.toNat > p.coefMax)

/-- A history with a newest entry pushed in front and the oldest dropped: always `COEF_MAX` slots. -/
def pushHist {w : Nat} (p : Params) (v : BitVec w) (h : List (BitVec w)) : List (BitVec w) := (v :: h).take p.coefMax

/-- `acc = Σ_{i<NUM_LEN} NUM[i]·xh[i] − Σ_{1≤i<DEN_LEN} DEN[i]·YH[i−1]`, exact (R202, R203). -/
def compSum (k : Comp) (xh : List Half) : Int :=
  dot (k.num.take k.numLen.toNat) xh - dot ((k.den.take k.denLen.toNat).drop 1) k.yh

/-- `DEN[0]` as an integer. -/
def den0 (s : State) : Int := sext (s.comp.den.getD 0 0#16)

/-- `y = sat_32(tdiv(acc, DEN[0]))` with the newest input pushed (R202). -/
def compOut (x : Int) (s : State) : Int :=
  sat 32 (tdiv (compSum s.comp (pushHist s.params (BitVec.ofInt 16 x) s.comp.xh)) (den0 s))

/-- `CompStep(x)` (R202): the state after the step; the output it returns is `compOut x s`. -/
def compStep (x : Int) (s : State) : Except Err State :=
  if lenBad s.params s.comp.numLen || lenBad s.params s.comp.denLen then .error .badConfig
  else if den0 s = 0 then .error .divZero
  else
    let y := compOut x s
    .ok (setDuty y
      { s with comp := { s.comp with
          xh := pushHist s.params (BitVec.ofInt 16 x) s.comp.xh
          yh := pushHist s.params (BitVec.ofInt 32 y) s.comp.yh } })

/-! ### The gradient-descent stepper (R223) -/

/-- `GdStep(e)` (R223): a settling call, an accumulating call, or the call that completes the window. -/
def gdStep (e : Int) (s : State) : State :=
  let g := s.gd
  if !g.force && decide (g.setCnt.toNat < g.settle.toNat) then
    { s with gd := { g with setCnt := BitVec.ofNat 16 (g.setCnt.toNat + 1) } }
  else
    let acc := sext g.acc + e
    let cnt := g.avgCnt.toNat + 1
    if !g.force && decide (cnt < g.avg.toNat) then
      { s with gd := { g with acc := BitVec.ofInt 32 acc, avgCnt := BitVec.ofNat 16 cnt } }
    else
      let mean := tdiv acc cnt
      let t := { s with gd := { g with setCnt := 0#16, avgCnt := 0#16, acc := 0#32, force := false } }
      if mean > 0 then setDuty (sext s.ctrl.duty + s.scale) t
      else if mean < 0 then setDuty (sext s.ctrl.duty - s.scale) t
      else t

/-! ### The droop term (R225, R226) -/

/-- `droop(i) = sat_32(tdiv(i · DROOP_SCALE, 2^SF_LOG2))` (R226). -/
def droopTerm (i : Int) (s : State) : Int := sat 32 (tdiv (i * sext s.ctrl.droopScale) (2 ^ s.params.sfLog2))

/-- `VREF_EFF <- DROOP_ADD ? sat_32(VREF + d) : sat_32(VREF − d)` (R225, R230). -/
def applyDroop (d : Int) (s : State) : State :=
  setVrefEff (if s.ctrl.droopAdd then sat 32 (sext s.ctrl.vref + d) else sat 32 (sext s.ctrl.vref - d)) s

/-! ### The control phase of the tick (R230) -/

/-- The reference of this tick: with the droop term of `DROOP_CH` when `DROOP_EN`, else `VREF` itself. -/
def tickReference (s : State) : State :=
  if s.ctrl.droopEn then applyDroop (droopTerm (sext (s.chan s.ctrl.droopCh.toNat).avg) s) s
  else setVrefEff (sext s.ctrl.vref) s

/-- The control error `e = sat_16(VREF_EFF − ch[FB_CH].AVG)` (R230). -/
def controlError (s : State) : Int := sat 16 (sext s.ctrl.vrefEff - sext (s.chan s.ctrl.fbCh.toNat).avg)

/-- `ControlPhase()` (R230). -/
def controlPhase (s : State) : Except Err State :=
  let t := tickReference s
  match s.ctrl.mode with
  | .off => .ok t
  | .comp => compStep (controlError t) t
  | .gd => .ok (gdStep (controlError t) t)

/-- Tick phase 4 (41_sensor.md R150): only with a mode selected and the interlock Armed. An error leaves the phase without
any effect but its recording (00_scope.md R7). -/
def controlTick (s : State) : State :=
  if decide (s.ctrl.mode ≠ .off) && !s.prot.latched then settle s (controlPhase s) else s

/-! ### Commands -/

/-- `CSTEP #x` (R201). -/
def execCstep (x : Int) (s : State) : Host.Outcome State Fault Refusal :=
  complete s ((compStep x s).map (withResult (BitVec.ofInt 32 (compOut x s))))

/-- `CRST` (R210): input history 0, output history `DUTY`; nothing is checked. -/
def execCrst (s : State) : Host.Outcome State Fault Refusal :=
  complete s (.ok { s with comp := { s.comp with
    xh := List.replicate s.params.coefMax 0#16
    yh := List.replicate s.params.coefMax s.ctrl.duty } })

/-- `GSTEP #e` (R221). -/
def execGstep (e : Int) (s : State) : Host.Outcome State Fault Refusal :=
  let t := gdStep e s
  complete s (.ok (withResult t.ctrl.duty t))

/-- `GFRC` (R222). -/
def execGfrc (s : State) : Host.Outcome State Fault Refusal :=
  complete s (.ok { s with gd := { s.gd with setCnt := s.gd.settle, avgCnt := 0#16, acc := 0#32, force := true } })

/-- `DROOP #i` (R225). It runs whatever `DROOP_EN` is. -/
def execDroop (i : Int) (s : State) : Host.Outcome State Fault Refusal :=
  let d := droopTerm i s
  complete s (.ok (withResult (BitVec.ofInt 32 d) (applyDroop d s)))

end Sys2Proof.Machine
end

