-- ==== Sys2Proof/Machine/Protection.lean ====
section
/-!
DEFINITION. The protection family (spec 42_protection.md): comparators, the two policies, the evaluation, and `PCHK`,
`PREN`, `PSHD`, `OSET`.
-/

namespace Sys2Proof.Machine

/-- The breach predicate of a channel (R172). Every comparison is strict, and `−L` is exact. -/
def breach (x : Channel) : Bool :=
  let a := sext x.avg
  let l := sext x.limit
  match x.cfg.cmp with
  | .off => false
  | .above => decide (a > l)
  | .band => decide (a > l) || decide (a < -l)
  | .below => decide (a < l)

/-- `H = { c in 0..N_CH−1 | breach(c) }`, in ascending order (R178). -/
def breaching (s : State) : List Nat := (List.range s.params.nCh).filter fun c => breach (s.chan c)

/-- The exact sum of the averages that `AGG_MASK` selects (R175). -/
def aggSum (s : State) : Int :=
  (((List.range s.params.nCh).filter fun c => s.prot.aggMask.getLsbD c).map fun c => sext (s.chan c).avg).sum

/-- The aggregate breach `A` (R175). -/
def aggBreach (s : State) : Bool :=
  decide (s.prot.aggMask ≠ 0#16) && decide (aggSum s > sext s.prot.aggLimit)

/-- The `TRIP` bits of one evaluation: every breaching channel, and `TRIP_AGG` for the aggregate (R173, R174). -/
def recordTrips (h : List Nat) (a : Bool) (s : State) : State :=
  { s with prot := { s.prot with trip := s.prot.trip ||| bitsOf h, tripAgg := s.prot.tripAgg || a } }

/-- The reason an evaluation latches (R173): OVERCURRENT wins over OVERTEMPERATURE. -/
def latchReason (h : List Nat) (a : Bool) (s : State) : BitVec 8 :=
  if a || h.any (fun c => decide ((s.chan c).cfg.cls = .current)) then 2#8 else 3#8

/-- Does an evaluation find any breach: `H != {} or A` (R173, R174). -/
def anyBreach (h : List Nat) (a : Bool) : Bool := !h.isEmpty || a

/-- The latching-policy effect (R173). `OUT_EN` is not changed. -/
def latchEffect (h : List Nat) (a : Bool) (s : State) : State :=
  let t := recordTrips h a s
  if anyBreach h a then enterLatch (latchReason h a s) t else t

/-- The channel-tripping-policy effect (R174): channel `c` guards output `c`; an aggregate breach opens every output.
`LATCHED` and `REASON` are not changed. -/
def tripEffect (h : List Nat) (a : Bool) (s : State) : State :=
  let t := recordTrips h a s
  let opened := bitsOf (h.filter fun c => decide (c < s.params.nOut))
  let u := { t with prot := { t.prot with outEn := if a then 0#16 else t.prot.outEn &&& ~~~opened } }
  if anyBreach h a then raiseEvent evTrip u else u

/-- `ProtEval()` (R178). Every comparator reads the averages as they stand when it starts. -/
def protEval (s : State) : State :=
  if s.prot.latched then s
  else
    match s.prot.policy with
    | .latching => latchEffect (breaching s) (aggBreach s) s
    | .tripping => tripEffect (breaching s) (aggBreach s) s

/-- `ProtEval()` when `PROT_CFG.EN = 1` (R180; tick phase 3 of 41_sensor.md R150). -/
def protCheck (s : State) : State := if s.prot.en then protEval s else s

/-- Hardware shutdown, tick phase 1 (R177): reason 0 whatever `EN` and `POLICY` are, only when Armed. -/
def hwShutdown (s : State) : State :=
  if s.ports.shdn && !s.prot.latched then enterLatch 0#8 s else s

/-- `PCHK` (R180). -/
def execPchk (s : State) : Host.Outcome State Fault Refusal := complete s (.ok (protCheck s))

/-- `PREN` (R181): only `LATCHED` and `REASON` are cleared. -/
def execPren (s : State) : Host.Outcome State Fault Refusal :=
  complete s (.ok { s with prot := { s.prot with latched := false, reason := 0#8 } })

/-- `PSHD #r` (R182): acts only when Armed; `r = 0` records 1. -/
def execPshd (r : Nat) (s : State) : Host.Outcome State Fault Refusal :=
  complete s (.ok (if s.prot.latched then s else enterLatch (if r = 0 then 1#8 else BitVec.ofNat 8 r) s))

/-- `OSET o, #b` (R183): level 1 also clears `TRIP[o]`. -/
def execOset (o : Nat) (b : Bool) (s : State) : Host.Outcome State Fault Refusal :=
  complete s (withOutput o s
    { s with prot := { s.prot with
        outEn := writeBit s.prot.outEn o b
        trip := if b then writeBit s.prot.trip o false else s.prot.trip } })

end Sys2Proof.Machine
end

