-- ==== Sys2Proof/Machine/Tick.lean ====
section
/-!
DEFINITION. The tick sequence (spec 41_sensor.md R150), which the tick source and the `TICK` command both run.
-/

namespace Sys2Proof.Machine

/-- `TICK_CNT <- (TICK_CNT + 1) mod 2^32` (R150, 10_state.md R29). -/
def countTick (s : State) : State := { s with tickCnt := s.tickCnt + 1#32 }

/-- One channel of tick phase 2: updated from its sample when `EN = 1` (R150). -/
def refreshChannel (s : State) (c : Nat) : State :=
  let x := s.chan c
  if x.cfg.en then s.setChan c (chanUpdate s.params (s.sample c) x) else s

/-- Tick phase 2: channels in ascending order; `RESULT` unchanged (R150). -/
def refreshAll (s : State) : State := (List.range s.params.nCh).foldl refreshChannel s

/-- `TickStep(smp, sd)` with the values on the input ports (R150): each phase sees the writes of the phases before it. -/
def tickStep (s : State) : State :=
  controlTick (protCheck (refreshAll (hwShutdown (countTick s))))

/-- `TICK` (R151): the tick sequence with the port values present at this step. -/
def execTick (s : State) : Host.Outcome State Fault Refusal := complete s (.ok (tickStep s))

end Sys2Proof.Machine
end

