-- ==== Sys2Proof/Machine/Agents.lean ====
section
/-!
DEFINITION. The three agents of PCK (spec 10_state.md R20): which agent step is next, and what it does. PCK has no program
counter and fetches nothing (R21, 20_memory.md R94): a command arrives as the data of a `BusWrite` to `CMD`, and the
queue `inputs` holds the agents' steps in the one total order they happen to take.
-/

namespace Sys2Proof.Machine

/-- What the next agent step asks for. -/
inductive Work where
  /-- The step is complete; this is the state it leaves. -/
  | done (t : State)
  /-- The step writes a defined command to `CMD`: it executes the command at this state. -/
  | command (i : Instr) (t : State)

/-- The offset of `CMD` (10_state.md R25). -/
def cmdAddr : Addr := 0x00C#13

/-- A `BusWrite` to `CMD` (R25): a defined command executes; an undefined opcode raises `ILLEGAL_OP` and has no other
effect (30_encoding.md R113). The transfer itself is no bus error, so it answers `err = 0` (log entry 5). -/
def writeCmd (v : Word) (s : State) : Work :=
  let t := respond (.write false) s
  match decode v with
  | .ok i => .command i t
  | .error _ => .done (recordError .illegalOp t)

/-- One agent's action (R20). -/
def act (a : Action) (s : State) : Work :=
  match a with
  | .busRead adr => .done (busRead adr s)
  | .busWrite adr v => if adr = cmdAddr then writeCmd v s else .done (busWrite adr v s)
  | .tick => .done (tickStep s)
  | .reset => .done (resetStep s)

/-- The next agent step. When no agent is ready nothing happens (log entry 2): PCK never halts (60_exceptions.md R290). -/
def nextWork (s : State) : Work :=
  match s.inputs with
  | [] => .done s
  | st :: rest => act st.action (present st rest s)

/-- The agent step that writes `w` to `CMD`, put in front of the queue with the ports as they are. -/
def pushCommand (w : Word) (s : State) : State :=
  { s with inputs := { ports := s.ports, action := .busWrite cmdAddr w } :: s.inputs }

end Sys2Proof.Machine
end

