-- ==== Sys2Proof/Machine/Flags.lean ====
section
/-!
DEFINITION. The three condition flags `STATUS.Z`, `STATUS.N`, `STATUS.V` (spec 10_state.md R32, 44_arith.md R240). There is
no carry flag, and no command reads a flag.
-/

namespace Sys2Proof.Machine

/-- `flags(r, v)` (R240): `Z <- (r = 0)`, `N <- (r < 0)`, `V <- v`. -/
def setFlags (r : Int) (v : Bool) (s : State) : State :=
  { s with status := { s.status with z := decide (r = 0), n := decide (r < 0), v := v } }

/-- `v = (t != r)`: the exact result did not survive the narrowing, or the clamp, to `r` (R241 to R249). -/
def changed (t r : Int) : Bool := decide (t ≠ r)

end Sys2Proof.Machine
end

