-- ==== Sys2Proof/Machine/Arith.lean ====
section
/-!
DEFINITION. The fixed-point primitive family and `NOP` (spec 44_arith.md). The operands are `ARG0` to `ARG2` read as
signed 32-bit integers; every command but `NOP` writes all three flags when it completes.
-/

namespace Sys2Proof.Machine

/-- `RESULT <- r; flags(r, v)` (R240): the end of every primitive but `MUL`, whose flags describe the whole product. -/
def arithResult (r : Int) (v : Bool) (s : State) : State := setFlags r v (withResult (BitVec.ofInt 32 r) s)

/-- `NOP` (R260): nothing. -/
def execNop (s : State) : Host.Outcome State Fault Refusal := complete s (.ok s)

/-- `ADD` (R241): wrapping; V is signed overflow. -/
def execAdd (s : State) : Host.Outcome State Fault Refusal :=
  let t := s.a0 + s.a1
  let r := wrap 32 t
  complete s (.ok (arithResult r (changed t r) s))

/-- `SUB` (R242): wrapping. -/
def execSub (s : State) : Host.Outcome State Fault Refusal :=
  let t := s.a0 - s.a1
  let r := wrap 32 t
  complete s (.ok (arithResult r (changed t r) s))

/-- `ADDS` (R243): saturating; V means the result saturated. -/
def execAdds (s : State) : Host.Outcome State Fault Refusal :=
  let t := s.a0 + s.a1
  let r := sat 32 t
  complete s (.ok (arithResult r (changed t r) s))

/-- `SUBS` (R244): saturating. -/
def execSubs (s : State) : Host.Outcome State Fault Refusal :=
  let t := s.a0 - s.a1
  let r := sat 32 t
  complete s (.ok (arithResult r (changed t r) s))

/-- `MUL` (R245): the 64-bit product in `RESULT_HI` and `RESULT`; Z and N describe the whole product, V is 0. -/
def execMul (s : State) : Host.Outcome State Fault Refusal :=
  let p := s.a0 * s.a1
  let bits := BitVec.ofInt 64 p
  complete s (.ok
    (setFlags p false (withResultHi (bits.extractLsb' 32 32) (withResult (bits.extractLsb' 0 32) s))))

/-- `MULSC #k` (R246): `sat_32(tdiv(A0·A1, 2^k))`. -/
def execMulsc (k : Nat) (s : State) : Host.Outcome State Fault Refusal :=
  let q := tdiv (s.a0 * s.a1) (2 ^ k)
  let r := sat 32 q
  complete s (.ok (arithResult r (changed q r) s))

/-- `SAT #n` (R247). -/
def execSat (n : Nat) (s : State) : Host.Outcome State Fault Refusal :=
  let r := sat n s.a0
  complete s (.ok (arithResult r (changed r s.a0) s))

/-- `CLAMP` (R248). -/
def execClamp (s : State) : Host.Outcome State Fault Refusal :=
  let r := clamp s.a0 s.a1 s.a2
  complete s (.ok (arithResult r (changed r s.a0) s))

/-- `DIVT` (R249): a zero divisor raises `DIV_ZERO` and leaves results and flags unchanged. -/
def execDivt (s : State) : Host.Outcome State Fault Refusal :=
  let q := tdiv s.a0 s.a1
  let r := sat 32 q
  complete s (if s.a1 = 0 then .error .divZero
    else .ok (arithResult r (changed q r) (withResultHi (BitVec.ofInt 32 (trem s.a0 s.a1)) s)))

end Sys2Proof.Machine
end

