-- ==== Sys2Proof/Machine/Dispatch.lean ====
section
/-!
DEFINITION. One arm per command: which meaning it has.
-/

namespace Sys2Proof.Machine

def exec (i : Instr) (s : State) : Host.Outcome State Fault Refusal :=
  match i with
  | .nop => Sys2Proof.Machine.execNop s
  | .supd c x => Sys2Proof.Machine.execSupd c x s
  | .sget c => Sys2Proof.Machine.execSget c s
  | .sclr c => Sys2Proof.Machine.execSclr c s
  | .tick => Sys2Proof.Machine.execTick s
  | .pchk => Sys2Proof.Machine.execPchk s
  | .pren => Sys2Proof.Machine.execPren s
  | .pshd r => Sys2Proof.Machine.execPshd r s
  | .oset o b => Sys2Proof.Machine.execOset o b s
  | .cstep x => Sys2Proof.Machine.execCstep x s
  | .crst => Sys2Proof.Machine.execCrst s
  | .gstep e => Sys2Proof.Machine.execGstep e s
  | .gfrc => Sys2Proof.Machine.execGfrc s
  | .droop d => Sys2Proof.Machine.execDroop d s
  | .add => Sys2Proof.Machine.execAdd s
  | .sub => Sys2Proof.Machine.execSub s
  | .adds => Sys2Proof.Machine.execAdds s
  | .subs => Sys2Proof.Machine.execSubs s
  | .mul => Sys2Proof.Machine.execMul s
  | .mulsc k => Sys2Proof.Machine.execMulsc k s
  | .sat n => Sys2Proof.Machine.execSat n s
  | .clamp => Sys2Proof.Machine.execClamp s
  | .divt => Sys2Proof.Machine.execDivt s

end Sys2Proof.Machine
end

