-- ==== Sys2Proof/Machine/Step.lean ====
section
/-!
DEFINITION. One step of PCK: the next agent's step (spec 00_scope.md R6, 10_state.md R20).
-/

namespace Sys2Proof.Machine

/-- One atomic step: a command written to `CMD` executes in the step of that write (20_memory.md R90); every other agent
step is complete as it is. -/
def step (s : State) : Host.Outcome State Fault Refusal :=
  match nextWork s with
  | .done t => .next t
  | .command i t => exec i t

/-- The state whose very next step writes the command word `w` to `CMD`: PCK fetches nothing, so an instruction is placed
as the host's next bus write (log entry 2). -/
def State.withFetchWord (s : State) (nbits w : Nat) : State := pushCommand (BitVec.ofNat 32 (w % 2 ^ nbits)) s

end Sys2Proof.Machine
end

