-- ==== Sys2Proof/Machine/Pins.lean ====
section
/-!
DEFINITION. The output pins of PCK: functions of the registers after each step (spec 10_state.md R75, 60_exceptions.md
R280, R285). The bus outputs `rdata` and `err` are the field `resp`.
-/

namespace Sys2Proof.Machine

/-- `irq_o`: some event is pending and enabled (R280). -/
def irqO (s : State) : Bool := decide (s.events &&& s.irqEn ≠ 0#3)

/-- `out_o[o] = OUT_EN[o] and not LATCHED`, for `o < N_OUT` (R285). -/
def outO (s : State) (o : Nat) : Bool := decide (o < s.params.nOut) && s.prot.outEn.getLsbD o && !s.prot.latched

/-- `pwm_en_o = PWM_EN and not LATCHED` (R285). -/
def pwmEnO (s : State) : Bool := s.ctrl.pwmEn && !s.prot.latched

/-- `duty_o = DUTY` (R285). -/
def dutyO (s : State) : Word := s.ctrl.duty

end Sys2Proof.Machine
end

