-- ==== Sys2Proof/Safety.lean ====
section
/-!
DEFINITION. What holds of PCK at every step boundary (spec 70_reset_and_hazards.md R301): the invariants that rules state,
and the shape of the state. Each is decidable, so that it can be evaluated on a state.
-/

namespace Sys2Proof.Machine

/-- 10_state.md R46 (a) to (d): the accumulator is the exact sum of the `W` slots, the cursor is below `W`, the average is
recomputed from the accumulator, and the slots beyond the window are 0. -/
abbrev Channel.Conserved (x : Channel) : Prop :=
  sext x.acc = ((x.buf.toList.take x.window).map sext).sum ∧
    x.cur.toNat < x.window ∧
    sext x.avg = tdiv (sext x.acc) x.window ∧
    ∀ k, k < 32 → x.window ≤ k → x.slot k = 0#16

/-- R46 for every channel. -/
abbrev State.ChannelsConserved (s : State) : Prop := ∀ x ∈ s.ch, Channel.Conserved x

/-- 43_control.md R231: `S ≤ DUTY ≤ 99·S`. -/
abbrev State.DutyInRange (s : State) : Prop := s.scale ≤ sext s.ctrl.duty ∧ sext s.ctrl.duty ≤ 99 * s.scale

/-- 70_reset_and_hazards.md R301: `REASON = 0` while Armed. -/
abbrev State.ArmedReasonZero (s : State) : Prop := s.prot.latched = false → s.prot.reason = 0#8

/-- 43_control.md R223: `|GD_ACC|` is bounded by the samples accumulated, of which a stored window has at most 65534. -/
abbrev State.StepperBounded (s : State) : Prop :=
  s.gd.avgCnt.toNat ≤ 65534 ∧
    -(32768 * (s.gd.avgCnt.toNat : Int)) ≤ sext s.gd.acc ∧ sext s.gd.acc ≤ 32768 * (s.gd.avgCnt.toNat : Int)

/-- 60_exceptions.md R273: `LAST_ERR` is 0 exactly when no error bit is set. -/
abbrev State.LastErrConsistent (s : State) : Prop := s.status.lastErr = 0#4 ↔ s.status.err = 0#5

/-- Registers with one bit or one number per channel or output hold only existing ones (10_state.md R52, R54, R55, R60). -/
abbrev State.FieldsLegal (s : State) : Prop :=
  s.prot.aggMask &&& lowBits s.params.nCh = s.prot.aggMask ∧
    s.prot.outEn &&& lowBits s.params.nOut = s.prot.outEn ∧
    s.prot.trip &&& lowBits s.params.nCh = s.prot.trip ∧
    s.ctrl.fbCh.toNat < s.params.nCh ∧ s.ctrl.droopCh.toNat < s.params.nCh

/-- The state has exactly the channels, coefficients and history slots that exist (10_state.md R40, R71, R72). -/
abbrev State.Shaped (s : State) : Prop :=
  s.ch.length = s.params.nCh ∧ s.comp.num.length = s.params.coefMax ∧ s.comp.den.length = s.params.coefMax ∧
    s.comp.xh.length = s.params.coefMax ∧ s.comp.yh.length = s.params.coefMax

/-- Every invariant at once, for legal build parameters. -/
abbrev State.Inv (s : State) : Prop :=
  s.params.Legal ∧ s.Shaped ∧ s.ChannelsConserved ∧ s.DutyInRange ∧ s.ArmedReasonZero ∧ s.StepperBounded ∧
    s.LastErrConsistent ∧ s.FieldsLegal

/-- The interlock holds the actuators off: every pin is 0 (42_protection.md R185). -/
def PinsOff (s : State) : Prop := (∀ o, outO s o = false) ∧ pwmEnO s = false

/-- Can this agent step leave Latched? Only reset, and a write of `PREN` to `CMD` (R170). -/
def Stimulus.mayUnlatch (st : Stimulus) : Bool :=
  match st.action with
  | .reset => true
  | .busWrite a w => decide (a = cmdAddr) && decide (decode w = .ok .pren)
  | .busRead _ => false
  | .tick => false

/-- Is this agent step a tick: the tick source's, or a write of `TICK` to `CMD` (41_sensor.md R150, R151)? -/
def Stimulus.ticks (st : Stimulus) : Bool :=
  match st.action with
  | .tick => true
  | .busWrite a w => decide (a = cmdAddr) && decide (decode w = .ok .tick)
  | .busRead _ => false
  | .reset => false

/-- Is this agent step reset? -/
def Stimulus.resets (st : Stimulus) : Bool := decide (st.action = .reset)

/-- Does this agent step write the register at `a`? -/
def Stimulus.writes (st : Stimulus) (a : Addr) : Bool :=
  match st.action with
  | .busWrite b _ => decide (b = a)
  | .busRead _ => false
  | .tick => false
  | .reset => false

/-- The command this agent step executes, if it is a write of a defined word to `CMD`. -/
def Stimulus.command (st : Stimulus) : Option Instr :=
  match st.action with
  | .busWrite a w => if a = cmdAddr then (decode w).toOption else none
  | .busRead _ => none
  | .tick => none
  | .reset => none

/-- The arithmetic family, `NOP` apart (44_arith.md): the commands that write the flags. -/
def isArith : Instr → Bool
  | .add | .sub | .adds | .subs | .mul | .mulsc _ | .sat _ | .clamp | .divt => true
  | .nop | .supd _ _ | .sget _ | .sclr _ | .tick | .pchk | .pren | .pshd _ | .oset _ _ => false
  | .cstep _ | .crst | .gstep _ | .gfrc | .droop _ => false

/-- The commands whose rules write `RESULT` (10_state.md R31, 92_eei_decisions.md D45). -/
def writesResult : Instr → Bool
  | .supd _ _ | .sget _ | .cstep _ | .gstep _ | .droop _ => true
  | .add | .sub | .adds | .subs | .mul | .mulsc _ | .sat _ | .clamp | .divt => true
  | .nop | .sclr _ | .tick | .pchk | .pren | .pshd _ | .oset _ _ | .crst | .gfrc => false

/-- The commands whose rules write `DUTY` (43_control.md R231). -/
def writesDuty : Instr → Bool
  | .cstep _ | .gstep _ => true
  | .nop | .supd _ _ | .sget _ | .sclr _ | .tick | .pchk | .pren | .pshd _ | .oset _ _ | .crst | .gfrc | .droop _ => false
  | .add | .sub | .adds | .subs | .mul | .mulsc _ | .sat _ | .clamp | .divt => false

/-- The commands whose rules write `RESULT_HI`. -/
def writesResultHi (i : Instr) : Bool := decide (i = .mul) || decide (i = .divt)

end Sys2Proof.Machine
end

