-- ==== Sys2Proof/Certificates/Slice0/Obligations.lean ====
section
/-!
DEFINITION. The statements for the provers. Each docstring names the rule of spec/ it formalises. An agent's step stands
at the head of `inputs`; `recordError` is R271, which `RecordErrorDoesExactlyThis` states bit by bit.
-/

open Sys2Proof Sys2Proof.Machine

/-! ### Encoding (30_encoding.md) -/

/-- Decoding what the assembler writes gives the command back, for every command it accepts (R110, R111, R116, R117).
-/
def Obligations.DecodeOfEncodeIsTheCommand : Prop :=
  ∀ i : Instr, i.wf = true → decode (encode i) = .ok i

/-- A decoded command is well formed, its word is the assembler's but for the ignored bits, and no value of the
ignored bits changes it (R111, R115, R117). -/
def Obligations.DecodedCommandReencodesAndIgnoresUnusedBits : Prop :=
  ∀ (w : Word) (i : Instr), decode w = .ok i →
    i.wf = true ∧ encode i = w &&& i.form.usedBits ∧
      ∀ w' : Word, w' &&& i.form.usedBits = w &&& i.form.usedBits → decode w' = .ok i

/-- R113: decoding looks only at `OP`; 23 values each select one command, and the other 233 raise `ILLEGAL_OP` and do
nothing else. What the bus answers is left open here (log entry 5). -/
def Obligations.UndefinedOpcodesRaiseIllegalOp : Prop :=
  definedOpcodes.length = 23 ∧ definedOpcodes.Nodup ∧ (∀ op ∈ definedOpcodes, op < 256) ∧
    (∀ w : Word, (opField w).toNat ∈ definedOpcodes → ∃ i, decode w = .ok i ∧ i.opcode = (opField w).toNat) ∧
    (∀ w : Word, (opField w).toNat ∉ definedOpcodes → decode w = .error (.undefinedOpcode (opField w).toNat)) ∧
    ∀ (s : State) (p : Ports) (w : Word) (rest : List Stimulus),
      s.inputs = { ports := p, action := .busWrite 0x00C#13 w } :: rest →
      (opField w).toNat ∉ definedOpcodes →
      ∃ r, step s = .next (recordError .illegalOp { s with inputs := rest, ports := p, resp := r })

/-- The words of R117's example column, and the words of the vectors V-P5 and V-A4 with junk in ignored bits, decode to
the commands they stand for. -/
def Obligations.ExampleWordsDecode : Prop :=
  decode 0x10000000#32 = .ok .pchk ∧ decode 0x02030000#32 = .ok (.sget 3) ∧
    decode 0x0100FFFB#32 = .ok (.supd 0 (-5)) ∧ decode 0x20000008#32 = .ok (.cstep 8) ∧
    decode 0x12000004#32 = .ok (.pshd 4) ∧ decode 0x13010001#32 = .ok (.oset 1 true) ∧
    decode 0x3500000F#32 = .ok (.mulsc 15) ∧ decode 0x36000007#32 = .ok (.sat 8) ∧
    decode 0x12001F03#32 = .ok (.pshd 3) ∧ decode 0x3500FFC1#32 = .ok (.mulsc 1)

/-- A `BusWrite` of a defined word to `CMD` executes that command in the same step (10_state.md R25, 20_memory.md
R90), at the state with the agent step taken from the queue and its ports shown; the bus answer `err = 0` is log entry
5. -/
def Obligations.StepExecutesTheDecodedCommand : Prop :=
  ∀ (s : State) (p : Ports) (w : Word) (rest : List Stimulus) (i : Instr),
    s.inputs = { ports := p, action := .busWrite 0x00C#13 w } :: rest → decode w = .ok i →
    step s = exec i { s with inputs := rest, ports := p, resp := .write false }

/-! ### Sensor family (41_sensor.md) and NOP -/

/-- R260: `NOP`, the word 0 among others, changes nothing. -/
def Obligations.NopChangesNothing : Prop :=
  (∀ w : Word, opField w = 0x00#8 → decode w = .ok .nop) ∧ decode 0#32 = .ok .nop ∧
    ∀ s : State, exec .nop s = .next s

/-- R141, R142, R143: `SUPD` on an existing channel subtracts the oldest sample, stores and adds the newest, advances
the cursor and recomputes the average, which is `RESULT`; nothing else changes. A channel that does not exist is
`BAD_INDEX`. The channel is in the state R46 describes. -/
def Obligations.SupdUpdatesTheChannelExactly : Prop :=
  (∀ w : Word, opField w = 0x01#8 → decode w = .ok (.supd (idxField w).toNat (immField w).toInt)) ∧
    (∀ (s : State) (c : Nat) (x : Int), s.params.nCh ≤ c → exec (.supd c x) s = .next (recordError .badIndex s)) ∧
    ∀ (s : State) (c : Nat) (x : Int), c < s.params.nCh → -32768 ≤ x → x ≤ 32767 → (s.chan c).Conserved →
      ∃ y : Channel, exec (.supd c x) s = .next { s with ch := s.ch.set c y, result := y.avg } ∧
        y.cfg = (s.chan c).cfg ∧ y.limit = (s.chan c).limit ∧
        (∀ k, k ≠ (s.chan c).cur.toNat → y.slot k = (s.chan c).slot k) ∧
        (y.slot (s.chan c).cur.toNat).toInt =
          (if (s.chan c).cfg.ofs then min (max (x - s.params.midpoint) (-32768)) 32767 else x) ∧
        y.acc.toInt = (s.chan c).acc.toInt - ((s.chan c).slot (s.chan c).cur.toNat).toInt +
          (y.slot (s.chan c).cur.toNat).toInt ∧
        y.cur.toNat = ((s.chan c).cur.toNat + 1) % 2 ^ (s.chan c).cfg.winLog2.val ∧
        y.avg.toInt = Int.tdiv y.acc.toInt (2 ^ (s.chan c).cfg.winLog2.val)

/-- R144: `SGET` copies the last average, what a read of `CH_AVG[c]` returns, into `RESULT`. -/
def Obligations.SgetReadsTheLastAverage : Prop :=
  (∀ w : Word, opField w = 0x02#8 → decode w = .ok (.sget (idxField w).toNat)) ∧
    (∀ (s : State) (c : Nat), s.params.nCh ≤ c → exec (.sget c) s = .next (recordError .badIndex s)) ∧
    ∀ (s : State) (c : Nat), c < s.params.nCh →
      exec (.sget c) s = .next { s with result := (s.chan c).avg } ∧ readReg (.chAvg c) s = (s.chan c).avg

/-- R145: `SCLR` clears the window, the accumulator, the cursor and the average, keeps `CH_CFG` and `CH_LIMIT`, and
leaves the channel in the state R46 describes. -/
def Obligations.SclrClearsTheChannel : Prop :=
  (∀ w : Word, opField w = 0x03#8 → decode w = .ok (.sclr (idxField w).toNat)) ∧
    (∀ (s : State) (c : Nat), s.params.nCh ≤ c → exec (.sclr c) s = .next (recordError .badIndex s)) ∧
    ∀ (s : State) (c : Nat), c < s.params.nCh →
      ∃ y : Channel, exec (.sclr c) s = .next { s with ch := s.ch.set c y } ∧
        y.cfg = (s.chan c).cfg ∧ y.limit = (s.chan c).limit ∧ (∀ k, y.slot k = 0#16) ∧
        y.acc = 0#32 ∧ y.cur = 0#5 ∧ y.avg = 0#32 ∧ y.Conserved

/-- R150, R151: `TICK` runs the phases in order, the third one what `PCHK` does: it counts a tick, refreshes every
enabled channel from its port sample, leaves `RESULT`, the flags and every configuration register alone; a hardware
shutdown latches with reason 0 before the comparators run (R177, R276), and while Latched protection and control
change nothing; with `shdn_i = 0` the first phase changes nothing, so that with `PROT_CFG.EN = 0` too the tick leaves
the interlock as it was. -/
def Obligations.TickRunsTheTickSequence : Prop :=
  (∀ w : Word, opField w = 0x04#8 → decode w = .ok .tick) ∧
    ∀ s : State, s.ch.length = s.params.nCh →
      ∃ t, exec .tick s = .next t ∧
        t = controlTick (protCheck (refreshAll (hwShutdown (countTick s)))) ∧
        (∀ u : State, exec .pchk u = .next (protCheck u)) ∧
        (∀ u : State, u.ports.shdn = false → hwShutdown u = u) ∧
        (s.ports.shdn = false → s.prot.en = false → t.prot = s.prot) ∧
        t.tickCnt = s.tickCnt + 1#32 ∧
        (∀ c, c < s.params.nCh → t.chan c =
          if (s.chan c).cfg.en then chanUpdate s.params (s.ports.sample.getD c 0#16).toInt (s.chan c) else s.chan c) ∧
        t.ch.length = s.ch.length ∧
        (t.params = s.params ∧ t.inputs = s.inputs ∧ t.ports = s.ports ∧ t.resp = s.resp ∧ t.irqEn = s.irqEn) ∧
        (t.arg0 = s.arg0 ∧ t.arg1 = s.arg1 ∧ t.arg2 = s.arg2 ∧ t.result = s.result ∧ t.resultHi = s.resultHi) ∧
        (t.status.z = s.status.z ∧ t.status.n = s.status.n ∧ t.status.v = s.status.v) ∧
        (t.prot.en = s.prot.en ∧ t.prot.policy = s.prot.policy ∧ t.prot.aggMask = s.prot.aggMask ∧
          t.prot.aggLimit = s.prot.aggLimit) ∧
        t.ctrl = { s.ctrl with duty := t.ctrl.duty, vrefEff := t.ctrl.vrefEff } ∧
        (t.gd.settle = s.gd.settle ∧ t.gd.avg = s.gd.avg) ∧
        t.comp = { s.comp with xh := t.comp.xh, yh := t.comp.yh } ∧
        (s.ports.shdn = true → s.prot.latched = false →
          t.prot = { s.prot with latched := true, reason := 0#8 } ∧ t.events = s.events ||| 0b001#3) ∧
        (s.prot.latched = true → t.prot = s.prot ∧ t.events = s.events) ∧
        (t.prot.latched = true → t.ctrl = s.ctrl ∧ t.gd = s.gd ∧ t.comp = s.comp ∧ t.status = s.status)

/-- R151: a `TICK` command does what a hardware tick with the same port values does; only the bus answer differs. -/
def Obligations.SoftwareTickEqualsHardwareTick : Prop :=
  ∀ (s : State) (p : Ports) (w : Word) (rest : List Stimulus), decode w = .ok .tick →
    ∃ t r, step { s with inputs := { ports := p, action := .tick } :: rest } = .next t ∧
      step { s with inputs := { ports := p, action := .busWrite 0x00C#13 w } :: rest } = .next { t with resp := r }

/-- R146: from a cleared channel, after any samples fed by `SUPD` the average is the truncated mean of the most recent
`W` stored samples, missing ones counting as 0. -/
def Obligations.MovingAverageOfTheLastWindow : Prop :=
  ∀ (s : State) (c : Nat) (xs : List Int) (p : Ports),
    c < s.params.nCh → c < s.ch.length → c ≤ 255 → xs ≠ [] → (∀ x ∈ xs, -32768 ≤ x ∧ x ≤ 32767) →
    (s.chan c).buf = Vector.replicate 32 0#16 → (s.chan c).acc = 0#32 → (s.chan c).cur = 0#5 →
    s.inputs = xs.map (fun x => { ports := p, action := .busWrite 0x00C#13 (encode (.supd c x)) }) →
    ∃ t : State, Host.Core.run Sys2Proof.core xs.length s = .next t ∧ t.result = (t.chan c).avg ∧
      (t.chan c).avg.toInt =
        Int.tdiv
          ((xs.map fun x : Int => if (s.chan c).cfg.ofs then min (max (x - s.params.midpoint) (-32768)) 32767 else x).drop
            (xs.length - 2 ^ (s.chan c).cfg.winLog2.val)).sum
          (2 ^ (s.chan c).cfg.winLog2.val)

/-- R147: after every update the accumulator is the exact sum of the slots, and it and the average keep to their
bounds. -/
def Obligations.UpdateConservesTheWindowSum : Prop :=
  ∀ (p : Params) (v : Int) (x y : Channel), x.Conserved → -32768 ≤ v → v ≤ 32767 → y = chanUpdate p v x →
    y.Conserved ∧ y.acc.toInt = ∑ k ∈ Finset.range (2 ^ x.cfg.winLog2.val), (y.slot k).toInt ∧
      -(32768 * (2 ^ x.cfg.winLog2.val : Int)) ≤ y.acc.toInt ∧ y.acc.toInt ≤ 32767 * 2 ^ x.cfg.winLog2.val ∧
      |y.acc.toInt| ≤ 2 ^ 20 ∧ -32768 ≤ y.avg.toInt ∧ y.avg.toInt ≤ 32767

/-! ### Protection family (42_protection.md) -/

/-- R172, R184: the breach predicate of each comparator mode is strict; BAND with a negative limit always breaches,
and with `L ≥ 0` it breaches exactly when the magnitude exceeds the limit. R175: the aggregate breaches exactly when
`AGG_MASK` selects a channel and the exact sum of the selected averages is strictly above `AGG_LIMIT`; that sum lies
within `±2^20` for averages of 16 bits, which R46 gives every channel. -/
def Obligations.ComparatorBoundariesAreStrict : Prop :=
  (∀ s : State, aggBreach s = true ↔
    s.prot.aggMask ≠ 0#16 ∧
      s.prot.aggLimit.toInt <
        ∑ c ∈ Finset.range s.params.nCh, if s.prot.aggMask.getLsbD c then (s.chan c).avg.toInt else 0) ∧
    (∀ s : State, s.params.Legal → s.Shaped → s.ChannelsConserved →
      |∑ c ∈ Finset.range s.params.nCh, if s.prot.aggMask.getLsbD c then (s.chan c).avg.toInt else 0| ≤ 2 ^ 20) ∧
    ∀ x : Channel,
      (x.cfg.cmp = .off → breach x = false) ∧
        (x.cfg.cmp = .above → (breach x = true ↔ x.avg.toInt > x.limit.toInt)) ∧
        (x.cfg.cmp = .band → (breach x = true ↔ x.avg.toInt > x.limit.toInt ∨ x.avg.toInt < -x.limit.toInt)) ∧
        (x.cfg.cmp = .below → (breach x = true ↔ x.avg.toInt < x.limit.toInt)) ∧
        (x.cfg.cmp = .band → x.limit.toInt < 0 → breach x = true) ∧
        (x.cfg.cmp = .band → 0 ≤ x.limit.toInt → (breach x = true ↔ x.limit.toInt < |x.avg.toInt|))

/-- R173, as `PCHK` applies it: under the latching policy `PCHK` records every breaching channel and the aggregate,
latches with OVERCURRENT before OVERTEMPERATURE and raises `EV_LATCH`; with no breach, with `EN = 0` or while Latched
it changes nothing. -/
def Obligations.PchkLatchesUnderTheLatchingPolicy : Prop :=
  (∀ w : Word, opField w = 0x10#8 → decode w = .ok .pchk) ∧
    (∀ s : State, (s.prot.en = false ∨ s.prot.latched = true) → exec .pchk s = .next s) ∧
    ∀ s : State, s.prot.en = true → s.prot.latched = false → s.prot.policy = .latching →
      ((∀ c, c < s.params.nCh → breach (s.chan c) = false) → aggBreach s = false → exec .pchk s = .next s) ∧
      (((∃ c, c < s.params.nCh ∧ breach (s.chan c) = true) ∨ aggBreach s = true) →
        ∃ trip, exec .pchk s = .next { s with
            events := s.events ||| 0b001#3
            prot := { s.prot with
              latched := true
              reason := if aggBreach s = true ∨ ∃ c, c < s.params.nCh ∧ breach (s.chan c) = true ∧
                (s.chan c).cfg.cls = .current then 2#8 else 3#8
              trip := trip
              tripAgg := s.prot.tripAgg || aggBreach s } } ∧
          ∀ c, c < 16 → (trip.getLsbD c = true ↔
            s.prot.trip.getLsbD c = true ∨ (c < s.params.nCh ∧ breach (s.chan c) = true)))

/-- R174, as `PCHK` applies it: under the channel-tripping policy `PCHK` opens the outputs of the breaching channels,
or every output for the aggregate, records them in `TRIP`, raises `EV_TRIP` on any breach and never latches. Repeating
`PCHK` changes nothing more, under either policy. -/
def Obligations.PchkOpensOutputsUnderTheTrippingPolicy : Prop :=
  (∀ s : State, s.prot.en = true → s.prot.latched = false → s.prot.policy = .tripping →
      ∃ trip outEn ev, exec .pchk s = .next { s with
          events := ev
          prot := { s.prot with trip := trip, outEn := outEn, tripAgg := s.prot.tripAgg || aggBreach s } } ∧
        (((∃ c, c < s.params.nCh ∧ breach (s.chan c) = true) ∨ aggBreach s = true) → ev = s.events ||| 0b010#3) ∧
        (¬((∃ c, c < s.params.nCh ∧ breach (s.chan c) = true) ∨ aggBreach s = true) → ev = s.events) ∧
        (∀ c, c < 16 → (trip.getLsbD c = true ↔
          s.prot.trip.getLsbD c = true ∨ (c < s.params.nCh ∧ breach (s.chan c) = true))) ∧
        ∀ o, o < 16 → (outEn.getLsbD o = true ↔
          s.prot.outEn.getLsbD o = true ∧ aggBreach s = false ∧
            ¬(o < s.params.nCh ∧ o < s.params.nOut ∧ breach (s.chan o) = true))) ∧
    ∀ s t : State, exec .pchk s = .next t → exec .pchk t = .next t

/-- R181: `PREN` clears `LATCHED` and `REASON` and nothing else; Armed, where `REASON` is 0, it changes nothing. -/
def Obligations.PrenClearsOnlyTheLatch : Prop :=
  (∀ w : Word, opField w = 0x11#8 → decode w = .ok .pren) ∧
    (∀ s : State, exec .pren s = .next { s with prot := { s.prot with latched := false, reason := 0#8 } }) ∧
    ∀ s : State, s.ArmedReasonZero → s.prot.latched = false → exec .pren s = .next s

/-- R182: `PSHD` latches an Armed interlock with its reason, 0 recorded as 1, and raises `EV_LATCH`; while Latched it
changes nothing. -/
def Obligations.PshdLatchesWhenArmed : Prop :=
  (∀ w : Word, opField w = 0x12#8 → decode w = .ok (.pshd (w.toNat % 256))) ∧
    (∀ (s : State) (r : Nat), s.prot.latched = true → exec (.pshd r) s = .next s) ∧
    ∀ (s : State) (r : Nat), s.prot.latched = false → r ≤ 255 →
      exec (.pshd r) s = .next { s with
        events := s.events ||| 0b001#3
        prot := { s.prot with latched := true, reason := if r = 0 then 1#8 else BitVec.ofNat 8 r } }

/-- R183: `OSET` sets one output enable, a level of 1 also clears the output's `TRIP` bit, and no other bit changes;
an output that does not exist is `BAD_INDEX`. -/
def Obligations.OsetSwitchesOneOutput : Prop :=
  (∀ w : Word, opField w = 0x13#8 → decode w = .ok (.oset (idxField w).toNat (w.getLsbD 0))) ∧
    (∀ (s : State) (o : Nat) (b : Bool), s.params.nOut ≤ o → exec (.oset o b) s = .next (recordError .badIndex s)) ∧
    ∀ (s : State) (o : Nat) (b : Bool), o < s.params.nOut →
      ∃ outEn trip, exec (.oset o b) s = .next { s with prot := { s.prot with outEn := outEn, trip := trip } } ∧
        ∀ j, j < 16 →
          outEn.getLsbD j = (if j = o then b else s.prot.outEn.getLsbD j) ∧
            trip.getLsbD j = (if j = o ∧ b = true then false else s.prot.trip.getLsbD j)

/-- R176: while Latched, no agent step but reset and a write of `PREN` changes `LATCHED` or `REASON`. -/
def Obligations.LatchedReasonIsStable : Prop :=
  ∀ (s t : State) (st : Stimulus) (rest : List Stimulus),
    s.inputs = st :: rest → s.prot.latched = true → st.mayUnlatch = false → step s = .next t →
    t.prot.latched = true ∧ t.prot.reason = s.prot.reason

/-- R185: over any run of agent steps without reset and without `PREN`, a latched interlock keeps `out_o` and
`pwm_en_o` at 0, whatever `OUT_EN` and `PWM_EN` become, and keeps its reason. By the equations of R285 the pins are, in
every state, what their registers say: while Armed `out_o` is `OUT_EN` on the outputs that exist and `pwm_en_o` is
`PWM_EN`, and `duty_o` is always `DUTY`, within `S` and `99·S` when `DUTY` is. -/
def Obligations.PinsStayOffWhileLatched : Prop :=
  (∀ (s : State) (o : Nat),
    (outO s o = true ↔ o < s.params.nOut ∧ s.prot.outEn.getLsbD o = true ∧ s.prot.latched = false) ∧
      (pwmEnO s = true ↔ s.ctrl.pwmEn = true ∧ s.prot.latched = false) ∧
      (s.prot.latched = false → o < s.params.nOut → outO s o = s.prot.outEn.getLsbD o) ∧
      (s.prot.latched = false → pwmEnO s = s.ctrl.pwmEn) ∧ dutyO s = s.ctrl.duty ∧
      (s.DutyInRange → (s.params.dutyScale : Int) ≤ (dutyO s).toInt ∧ (dutyO s).toInt ≤ 99 * s.params.dutyScale)) ∧
  ∀ (n : Nat) (s t : State), s.prot.latched = true → (∀ st ∈ s.inputs.take n, st.mayUnlatch = false) →
    Host.Core.run Sys2Proof.core n s = .next t →
    (∀ o, outO t o = false) ∧ pwmEnO t = false ∧ t.prot.latched = true ∧ t.prot.reason = s.prot.reason

/-! ### Control family (43_control.md) -/

/-- R201, R202, R203: `CSTEP` with legal lengths and a nonzero `DEN[0]` evaluates the difference equation exactly,
saturates the quotient to 32 bits, shifts both histories, clamps `DUTY` and answers `y`; the exact sum stays below
2^50. -/
def Obligations.CstepEvaluatesTheDifferenceEquation : Prop :=
  (∀ w : Word, opField w = 0x20#8 → decode w = .ok (.cstep (immField w).toInt)) ∧
    ∀ (s : State) (x : Int), s.params.Legal → s.Shaped → -32768 ≤ x → x ≤ 32767 →
      1 ≤ s.comp.numLen.toNat → s.comp.numLen.toNat ≤ s.params.coefMax →
      1 ≤ s.comp.denLen.toNat → s.comp.denLen.toNat ≤ s.params.coefMax → s.comp.den.getD 0 0#16 ≠ 0#16 →
      ∃ (acc y : Int) (duty : Word),
        acc = (∑ i ∈ Finset.range s.comp.numLen.toNat,
            (s.comp.num.getD i 0#16).toInt * (if i = 0 then x else (s.comp.xh.getD (i - 1) 0#16).toInt)) -
          ∑ i ∈ Finset.range (s.comp.denLen.toNat - 1),
            (s.comp.den.getD (i + 1) 0#16).toInt * (s.comp.yh.getD i 0#32).toInt ∧
        |acc| < 2 ^ 50 ∧
        y = min (max (Int.tdiv acc (s.comp.den.getD 0 0#16).toInt) (-2147483648)) 2147483647 ∧
        duty.toInt = min (max y s.params.dutyScale) (99 * s.params.dutyScale) ∧
        exec (.cstep x) s = .next { s with
          result := BitVec.ofInt 32 y
          ctrl := { s.ctrl with duty := duty }
          comp := { s.comp with
            xh := BitVec.ofInt 16 x :: s.comp.xh.dropLast
            yh := BitVec.ofInt 32 y :: s.comp.yh.dropLast } }

/-- R201, R276: `CSTEP` with an illegal length is `BAD_CONFIG`, checked first; with legal lengths and `DEN[0] = 0` it
is `DIV_ZERO`; either way it has no other effect. -/
def Obligations.CstepRefusesBadConfiguration : Prop :=
  ∀ (s : State) (x : Int),
    ((s.comp.numLen.toNat < 1 ∨ s.params.coefMax < s.comp.numLen.toNat ∨
        s.comp.denLen.toNat < 1 ∨ s.params.coefMax < s.comp.denLen.toNat) →
      exec (.cstep x) s = .next (recordError .badConfig s)) ∧
    (1 ≤ s.comp.numLen.toNat → s.comp.numLen.toNat ≤ s.params.coefMax →
      1 ≤ s.comp.denLen.toNat → s.comp.denLen.toNat ≤ s.params.coefMax → s.comp.den.getD 0 0#16 = 0#16 →
      exec (.cstep x) s = .next (recordError .divZero s))

/-- R204: with both lengths 1 and `NUM[0] = DEN[0] = 1`, every `CompStep(x)` returns `x` and clamps `DUTY` to it,
`CSTEP` answers `x`, and the compensator stays such that the next one does so again; the reset compensator is of this
kind. -/
def Obligations.IdentityCompensatorReturnsItsInput : Prop :=
  (∀ (s : State) (x : Int), s.params.Legal → -32768 ≤ x → x ≤ 32767 →
    s.comp.numLen = 1#4 → s.comp.denLen = 1#4 → s.comp.num.getD 0 0#16 = 1#16 → s.comp.den.getD 0 0#16 = 1#16 →
    compOut x s = x ∧ ∃ t, compStep x s = .ok t ∧
      exec (.cstep x) s = .next { t with result := BitVec.ofInt 32 x } ∧ (BitVec.ofInt 32 x : Word).toInt = x ∧
      t.ctrl.duty.toInt = min (max x s.params.dutyScale) (99 * s.params.dutyScale) ∧
      t.comp.numLen = 1#4 ∧ t.comp.denLen = 1#4 ∧ t.comp.num = s.comp.num ∧ t.comp.den = s.comp.den) ∧
    ∀ p : Params, p.Legal →
      (State.resetWith p).comp.numLen = 1#4 ∧ (State.resetWith p).comp.denLen = 1#4 ∧
        (State.resetWith p).comp.num.getD 0 0#16 = 1#16 ∧ (State.resetWith p).comp.den.getD 0 0#16 = 1#16

/-- R210: `CRST` clears the input history and seeds the output history with `DUTY`, checking nothing. -/
def Obligations.CrstSeedsTheHistories : Prop :=
  (∀ w : Word, opField w = 0x21#8 → decode w = .ok .crst) ∧
    ∀ s : State, ∃ xh yh, exec .crst s = .next { s with comp := { s.comp with xh := xh, yh := yh } } ∧
      xh.length = s.params.coefMax ∧ yh.length = s.params.coefMax ∧
      (∀ j, j < s.params.coefMax → xh.getD j 1#16 = 0#16) ∧ ∀ j, j < s.params.coefMax → yh.getD j 0#32 = s.ctrl.duty

/-- R221, by the procedure of R223: a `GSTEP` call settles, accumulates or completes its window; only the completing
call moves `DUTY`, by `S` in the direction of the mean error, within the clamp. The state is one the stepper's bound
holds in. -/
def Obligations.GstepSettlesAccumulatesOrMoves : Prop :=
  (∀ w : Word, opField w = 0x22#8 → decode w = .ok (.gstep (immField w).toInt)) ∧
    ∀ (s : State) (e : Int), s.params.Legal → s.DutyInRange → s.StepperBounded → -32768 ≤ e → e ≤ 32767 →
      (s.gd.force = false → s.gd.setCnt.toNat < s.gd.settle.toNat →
        exec (.gstep e) s = .next { s with
          gd := { s.gd with setCnt := s.gd.setCnt + 1#16 }, result := s.ctrl.duty }) ∧
      (s.gd.force = false → s.gd.settle.toNat ≤ s.gd.setCnt.toNat → s.gd.avgCnt.toNat + 1 < s.gd.avg.toNat →
        ∃ acc : Word, acc.toInt = s.gd.acc.toInt + e ∧
          exec (.gstep e) s = .next { s with
            gd := { s.gd with acc := acc, avgCnt := s.gd.avgCnt + 1#16 }, result := s.ctrl.duty }) ∧
      ((s.gd.force = true ∨ (s.gd.settle.toNat ≤ s.gd.setCnt.toNat ∧ s.gd.avg.toNat ≤ s.gd.avgCnt.toNat + 1)) →
        ∃ duty : Word,
          duty.toInt = min (max (s.ctrl.duty.toInt + s.params.dutyScale *
            Int.sign (Int.tdiv (s.gd.acc.toInt + e) (s.gd.avgCnt.toNat + 1))) s.params.dutyScale)
              (99 * s.params.dutyScale) ∧
          exec (.gstep e) s = .next { s with
            gd := { s.gd with setCnt := 0#16, avgCnt := 0#16, acc := 0#32, force := false }
            ctrl := { s.ctrl with duty := duty }
            result := duty })

/-- R222: `GFRC` primes the stepper; the next `GSTEP` takes its error as the sole sample, moves `DUTY` by `S·sign(e)`
and clears `FORCE`; a second `GFRC` before it changes nothing more, and `CRST` leaves the trigger pending. -/
def Obligations.GfrcMakesTheNextCallDecide : Prop :=
  (∀ w : Word, opField w = 0x23#8 → decode w = .ok .gfrc) ∧
    ∀ s : State, ∃ t, exec .gfrc s = .next t ∧
      t = { s with gd := { s.gd with setCnt := s.gd.settle, avgCnt := 0#16, acc := 0#32, force := true } } ∧
      exec .gfrc t = .next t ∧ (∃ u, exec .crst t = .next u ∧ u.gd = t.gd) ∧
      ∀ e : Int, s.params.Legal → s.DutyInRange → -32768 ≤ e → e ≤ 32767 →
        ∃ u, exec (.gstep e) t = .next u ∧ u.gd.force = false ∧ u.result = u.ctrl.duty ∧
          u.ctrl.duty.toInt =
            min (max (s.ctrl.duty.toInt + s.params.dutyScale * Int.sign e) s.params.dutyScale) (99 * s.params.dutyScale)

/-- R224: from idle counters, a constant error leaves `DUTY` alone for `settle + average − 1` calls and moves it by
`S·sign(e)`, within the clamp, at call `settle + average`; then the stepper stands as it began. -/
def Obligations.GradientStepMovesAfterSettleAndAverage : Prop :=
  ∀ (s : State) (e : Int) (p : Ports), s.params.Legal → s.DutyInRange → -32768 ≤ e → e ≤ 32767 →
    s.gd.setCnt = 0#16 → s.gd.avgCnt = 0#16 → s.gd.acc = 0#32 → s.gd.force = false →
    s.inputs = List.replicate (s.gd.settle.toNat + max s.gd.avg.toNat 1)
      { ports := p, action := .busWrite 0x00C#13 (encode (.gstep e)) } →
    (∀ k, k < s.gd.settle.toNat + max s.gd.avg.toNat 1 →
      ∃ t : State, Host.Core.run Sys2Proof.core k s = .next t ∧ t.ctrl.duty = s.ctrl.duty) ∧
    ∃ t : State, Host.Core.run Sys2Proof.core (s.gd.settle.toNat + max s.gd.avg.toNat 1) s = .next t ∧
      t.gd = s.gd ∧
      t.ctrl.duty.toInt =
        min (max (s.ctrl.duty.toInt + s.params.dutyScale * Int.sign e) s.params.dutyScale) (99 * s.params.dutyScale)

/-- R225, R226: `DROOP` computes the saturated, truncated droop term into `RESULT` and applies it to `VREF` with the
chosen sign; the term is what `MULSC` with `k = SF_LOG2` computes. -/
def Obligations.DroopAppliesTheScaledTerm : Prop :=
  (∀ w : Word, opField w = 0x24#8 → decode w = .ok (.droop (immField w).toInt)) ∧
    ∀ (s : State) (i : Int), -32768 ≤ i → i ≤ 32767 →
      ∃ d vrefEff : Word,
        d.toInt = min (max (Int.tdiv (i * s.ctrl.droopScale.toInt) (2 ^ s.params.sfLog2)) (-2147483648)) 2147483647 ∧
        vrefEff.toInt = min (max (if s.ctrl.droopAdd then s.ctrl.vref.toInt + d.toInt else s.ctrl.vref.toInt - d.toInt)
          (-2147483648)) 2147483647 ∧
        exec (.droop i) s = .next { s with result := d, ctrl := { s.ctrl with vrefEff := vrefEff } } ∧
        ∃ t, exec (.mulsc s.params.sfLog2)
            { s with arg0 := BitVec.ofInt 32 i, arg1 := s.ctrl.droopScale } = .next t ∧ t.result = d

/-- R230: the control phase of a tick, Armed: the reference with or without the droop term, the saturated control
error, then the compensator step or the stepper call; an error has no effect but its recording, and with MODE OFF or
Latched nothing happens. -/
def Obligations.ControlPhaseRunsTheSelectedStrategy : Prop :=
  (∀ s : State, (s.ctrl.mode = .off ∨ s.prot.latched = true) → controlTick s = s) ∧
    ∀ s : State, s.prot.latched = false →
      ∃ (d : Int) (v : Word) (e : Int) (u : State),
        d = min (max (Int.tdiv ((s.chan s.ctrl.droopCh.toNat).avg.toInt * s.ctrl.droopScale.toInt)
          (2 ^ s.params.sfLog2)) (-2147483648)) 2147483647 ∧
        v.toInt = (if s.ctrl.droopEn then
            min (max (if s.ctrl.droopAdd then s.ctrl.vref.toInt + d else s.ctrl.vref.toInt - d) (-2147483648)) 2147483647
          else s.ctrl.vref.toInt) ∧
        e = min (max (v.toInt - (s.chan s.ctrl.fbCh.toNat).avg.toInt) (-32768)) 32767 ∧
        u = { s with ctrl := { s.ctrl with vrefEff := v } } ∧
        (s.ctrl.mode = .gd → controlTick s = gdStep e u) ∧
        (s.ctrl.mode = .comp → ∀ t, compStep e u = .ok t → controlTick s = t) ∧
        (s.ctrl.mode = .comp → ∀ k, compStep e u = .error k → controlTick s = recordError k s)

/-- R230, R275: when the control phase of a tick in COMP mode finds a length outside `1..COEF_MAX` (`BAD_CONFIG`, code
4) or, with both lengths legal, `DEN[0] = 0` (`DIV_ZERO`, code 3), the tick leaves the control registers, the stepper
and the compensator as they were, still counts, and, unless the interlock ends it Latched, records that error. -/
def Obligations.TickControlErrorFreezesControl : Prop :=
  ∀ (s : State) (p : Ports) (rest : List Stimulus),
    s.inputs = { ports := p, action := .tick } :: rest → s.ctrl.mode = .comp →
    ((s.comp.numLen.toNat < 1 ∨ s.params.coefMax < s.comp.numLen.toNat ∨
        s.comp.denLen.toNat < 1 ∨ s.params.coefMax < s.comp.denLen.toNat) →
      ∃ t, step s = .next t ∧ t.tickCnt = s.tickCnt + 1#32 ∧ t.ctrl = s.ctrl ∧ t.gd = s.gd ∧ t.comp = s.comp ∧
        (t.prot.latched = false →
          t.status = { s.status with err := s.status.err ||| 0b01000#5, lastErr := 4#4 } ∧
            t.events.getLsbD 2 = true)) ∧
    (1 ≤ s.comp.numLen.toNat → s.comp.numLen.toNat ≤ s.params.coefMax →
      1 ≤ s.comp.denLen.toNat → s.comp.denLen.toNat ≤ s.params.coefMax → s.comp.den.getD 0 0#16 = 0#16 →
      ∃ t, step s = .next t ∧ t.tickCnt = s.tickCnt + 1#32 ∧ t.ctrl = s.ctrl ∧ t.gd = s.gd ∧ t.comp = s.comp ∧
        (t.prot.latched = false →
          t.status = { s.status with err := s.status.err ||| 0b00100#5, lastErr := 3#4 } ∧
            t.events.getLsbD 2 = true))

/-! ### Fixed-point primitives (44_arith.md) -/

/-- R241: `ADD` wraps as 32-bit addition does; V is signed overflow. -/
def Obligations.AddWrapsWithOverflowFlag : Prop :=
  (∀ w : Word, opField w = 0x30#8 → decode w = .ok .add) ∧
    ∀ s : State, exec .add s = .next { s with
      result := s.arg0 + s.arg1
      status := { s.status with
        z := decide (s.arg0 + s.arg1 = 0#32)
        n := (s.arg0 + s.arg1).msb
        v := decide (¬(-2147483648 ≤ s.arg0.toInt + s.arg1.toInt ∧ s.arg0.toInt + s.arg1.toInt ≤ 2147483647)) } }

/-- R242: `SUB` wraps as 32-bit subtraction does; V is signed overflow. -/
def Obligations.SubWrapsWithOverflowFlag : Prop :=
  (∀ w : Word, opField w = 0x31#8 → decode w = .ok .sub) ∧
    ∀ s : State, exec .sub s = .next { s with
      result := s.arg0 - s.arg1
      status := { s.status with
        z := decide (s.arg0 - s.arg1 = 0#32)
        n := (s.arg0 - s.arg1).msb
        v := decide (¬(-2147483648 ≤ s.arg0.toInt - s.arg1.toInt ∧ s.arg0.toInt - s.arg1.toInt ≤ 2147483647)) } }

/-- R243, R244: `ADDS` and `SUBS` answer the sum or the difference, or the end of the 32-bit range it lies beyond; V
says that it saturated. -/
def Obligations.AddsAndSubsSaturate : Prop :=
  (∀ w : Word, (opField w = 0x32#8 → decode w = .ok .adds) ∧ (opField w = 0x33#8 → decode w = .ok .subs)) ∧
    ∀ (s : State) (i : Instr) (x : Int),
      (i = .adds ∧ x = s.arg0.toInt + s.arg1.toInt) ∨ (i = .subs ∧ x = s.arg0.toInt - s.arg1.toInt) →
      ∃ r : Word,
        r.toInt = (if x > 2147483647 then 2147483647 else if x < -2147483648 then -2147483648 else x) ∧
        exec i s = .next { s with
          result := r
          status := { s.status with
            z := decide (r = 0#32)
            n := r.msb
            v := decide (¬(-2147483648 ≤ x ∧ x ≤ 2147483647)) } }

/-- R245: `MUL` answers the whole 64-bit signed product in `RESULT_HI` and `RESULT`; Z and N describe it, V is 0. -/
def Obligations.MulGivesTheWholeProduct : Prop :=
  (∀ w : Word, opField w = 0x34#8 → decode w = .ok .mul) ∧
    ∀ s : State, ∃ hi lo : Word, (hi ++ lo).toInt = s.arg0.toInt * s.arg1.toInt ∧
      exec .mul s = .next { s with
        result := lo
        resultHi := hi
        status := { s.status with
          z := decide (s.arg0.toInt * s.arg1.toInt = 0)
          n := decide (s.arg0.toInt * s.arg1.toInt < 0)
          v := false } }

/-- R246: `MULSC` answers the product divided by `2^k`, truncated toward zero and saturated; with `k = 63` it is 0. -/
def Obligations.MulscScalesTruncatesAndSaturates : Prop :=
  (∀ w : Word, opField w = 0x35#8 → decode w = .ok (.mulsc (w.toNat % 64))) ∧
    ∀ (s : State) (k : Nat), k ≤ 63 →
      ∃ (q : Int) (r : Word), q = Int.tdiv (s.arg0.toInt * s.arg1.toInt) (2 ^ k) ∧
        r.toInt = min (max q (-2147483648)) 2147483647 ∧ (k = 63 → r = 0#32) ∧
        exec (.mulsc k) s = .next { s with
          result := r
          status := { s.status with z := decide (r = 0#32), n := r.msb, v := decide (q ≠ r.toInt) } }

/-- R247: `SAT` saturates `ARG0` to `n` bits; with `n = 32` it answers `ARG0` with V = 0. -/
def Obligations.SatSaturatesToTheWidth : Prop :=
  (∀ w : Word, opField w = 0x36#8 → decode w = .ok (.sat (w.toNat % 32 + 1))) ∧
    ∀ (s : State) (n : Nat), 1 ≤ n → n ≤ 32 →
      ∃ r : Word, r.toInt = min (max s.arg0.toInt (-(2 ^ (n - 1)))) (2 ^ (n - 1) - 1) ∧ (n = 32 → r = s.arg0) ∧
        exec (.sat n) s = .next { s with
          result := r
          status := { s.status with z := decide (r = 0#32), n := r.msb, v := decide (r ≠ s.arg0) } }

/-- R248: `CLAMP` answers the high bound when the bounds cross, else the value or the bound it passes. -/
def Obligations.ClampKeepsWithinTheBounds : Prop :=
  (∀ w : Word, opField w = 0x37#8 → decode w = .ok .clamp) ∧
    ∀ s : State, ∃ r : Word,
      r = (if s.arg1.toInt > s.arg2.toInt then s.arg2 else if s.arg0.toInt < s.arg1.toInt then s.arg1
        else if s.arg0.toInt > s.arg2.toInt then s.arg2 else s.arg0) ∧
      exec .clamp s = .next { s with
        result := r
        status := { s.status with z := decide (r = 0#32), n := r.msb, v := decide (r ≠ s.arg0) } }

/-- R249: `DIVT` answers quotient and remainder truncated toward zero, saturating the one quotient that does not fit;
a zero divisor is `DIV_ZERO` and changes no result and no flag. -/
def Obligations.DivtTruncatesTowardZero : Prop :=
  (∀ w : Word, opField w = 0x38#8 → decode w = .ok .divt) ∧
    (∀ s : State, s.arg1 = 0#32 → exec .divt s = .next (recordError .divZero s)) ∧
    ∀ s : State, s.arg1 ≠ 0#32 →
      ∃ (q m : Int) (r h : Word), s.arg0.toInt = s.arg1.toInt * q + m ∧ |m| < |s.arg1.toInt| ∧
        (m = 0 ∨ Int.sign m = Int.sign s.arg0.toInt) ∧ h.toInt = m ∧ r.toInt = min q 2147483647 ∧
        exec .divt s = .next { s with
          result := r
          resultHi := h
          status := { s.status with z := decide (r = 0#32), n := r.msb, v := decide (q = 2147483648) } }

/-! ### The register bus (20_memory.md, 10_state.md) -/

/-- R88: a `BusRead` that is no bus error answers the register's value and changes no register, event or output. The
value of each register is the sum of its fields at their bits, reserved bits 0, or a signed field extended to 32 bits
(10_state.md R26 to R31, R41, R43 to R45, R50 to R55, R60 to R72). -/
def Obligations.BusReadHasNoSideEffect : Prop :=
  (∀ (s : State) (p : Ports) (a : Addr) (rest : List Stimulus) (r : Reg),
    s.inputs = { ports := p, action := .busRead a } :: rest → regAt s.params a = some r →
    step s = .next { s with inputs := rest, ports := p, resp := .read (readReg r s) false }) ∧
  ∀ s : State,
    readReg .cmd s = 0#32 ∧
    (readReg .status s).toNat = s.status.err.toNat + s.status.lastErr.toNat * 2 ^ 8 + s.status.z.toNat * 2 ^ 16 +
      s.status.n.toNat * 2 ^ 17 + s.status.v.toNat * 2 ^ 18 + s.prot.latched.toNat * 2 ^ 24 ∧
    (readReg .events s).toNat = s.events.toNat ∧ (readReg .irqEn s).toNat = s.irqEn.toNat ∧
    readReg .tickCnt s = s.tickCnt ∧ readReg .arg0 s = s.arg0 ∧ readReg .arg1 s = s.arg1 ∧
    readReg .arg2 s = s.arg2 ∧ readReg .result s = s.result ∧ readReg .resultHi s = s.resultHi ∧
    (readReg .protCfg s).toNat = s.prot.en.toNat + (if s.prot.policy = .tripping then 2 else 0) ∧
    (readReg .protStat s).toNat = s.prot.latched.toNat + s.prot.reason.toNat * 2 ^ 8 ∧
    (readReg .aggMask s).toNat = s.prot.aggMask.toNat ∧ readReg .aggLimit s = s.prot.aggLimit ∧
    (readReg .outEn s).toNat = s.prot.outEn.toNat ∧
    (readReg .trip s).toNat = s.prot.trip.toNat + s.prot.tripAgg.toNat * 2 ^ 31 ∧
    (readReg .ctrlCfg s).toNat = (if s.ctrl.mode = .comp then 1 else if s.ctrl.mode = .gd then 2 else 0) +
      s.ctrl.fbCh.toNat * 2 ^ 4 + s.ctrl.droopEn.toNat * 2 ^ 8 + s.ctrl.droopAdd.toNat * 2 ^ 9 +
      s.ctrl.droopCh.toNat * 2 ^ 12 + s.ctrl.pwmEn.toNat * 2 ^ 16 ∧
    readReg .duty s = s.ctrl.duty ∧ readReg .vref s = s.ctrl.vref ∧ readReg .vrefEff s = s.ctrl.vrefEff ∧
    readReg .droopScale s = s.ctrl.droopScale ∧
    (readReg .gdSettle s).toNat = s.gd.settle.toNat ∧ (readReg .gdAvg s).toNat = s.gd.avg.toNat ∧
    (readReg .gdCnt s).toNat = s.gd.setCnt.toNat + s.gd.avgCnt.toNat * 2 ^ 16 ∧ readReg .gdAcc s = s.gd.acc ∧
    (readReg .gdStat s).toNat = s.gd.force.toNat ∧
    (readReg .compLen s).toNat = s.comp.numLen.toNat + s.comp.denLen.toNat * 2 ^ 8 ∧
    (∀ i, (readReg (.num i) s).toInt = (s.comp.num.getD i 0#16).toInt ∧
      (readReg (.den i) s).toInt = (s.comp.den.getD i 0#16).toInt ∧
      (readReg (.xh i) s).toInt = (s.comp.xh.getD i 0#16).toInt ∧ readReg (.yh i) s = s.comp.yh.getD i 0#32) ∧
    ∀ c, (readReg (.chCfg c) s).toNat = (s.chan c).cfg.en.toNat + (s.chan c).cfg.winLog2.val * 2 +
        (s.chan c).cfg.ofs.toNat * 2 ^ 4 + (if (s.chan c).cfg.cmp = .above then 1 else
          if (s.chan c).cfg.cmp = .band then 2 else if (s.chan c).cfg.cmp = .below then 3 else 0) * 2 ^ 5 +
        (if (s.chan c).cfg.cls = .temperature then 1 else 0) * 2 ^ 7 ∧
      readReg (.chLimit c) s = (s.chan c).limit ∧ readReg (.chAvg c) s = (s.chan c).avg ∧
      readReg (.chAcc c) s = (s.chan c).acc ∧ (readReg (.chCur c) s).toNat = (s.chan c).cur.toNat ∧
      ∀ k, readReg (.chReserved c k) s = 0#32 ∧ (readReg (.buf c k) s).toInt = ((s.chan c).slot k).toInt

/-- R85: a misaligned or unmapped access answers `err = 1`, a read returns 0, a write changes no register and executes
no command, and code 5 is recorded. -/
def Obligations.BusErrorIsRecordedAndAnswered : Prop :=
  (∀ (p : Params) (a : Addr), a.toNat % 4 ≠ 0 → regAt p a = none) ∧
    (∀ (s : State) (p : Ports) (a : Addr) (rest : List Stimulus),
      s.inputs = { ports := p, action := .busRead a } :: rest → regAt s.params a = none →
      step s = .next (recordError .busError { s with inputs := rest, ports := p, resp := .read 0#32 true })) ∧
    ∀ (s : State) (p : Ports) (a : Addr) (v : Word) (rest : List Stimulus),
      s.inputs = { ports := p, action := .busWrite a v } :: rest → regAt s.params a = none →
      step s = .next (recordError .busError { s with inputs := rest, ports := p, resp := .write true })

/-- R86: a write to a read-only register is ignored and answers `err = 0`, and so is one to a reserved word; `CMD`
reads 0 with `err = 0`. -/
def Obligations.ReadOnlyWritesAreIgnored : Prop :=
  (∀ (s : State) (p : Ports) (a : Addr) (v : Word) (rest : List Stimulus) (r : Reg),
    s.inputs = { ports := p, action := .busWrite a v } :: rest → regAt s.params a = some r →
    (r ∈ [.id, .param, .param2, .tickCnt, .result, .resultHi, .protStat, .vrefEff, .gdCnt, .gdAcc, .gdStat] ∨
      (∃ j, r = .xh j) ∨ (∃ j, r = .yh j) ∨ (∃ c, r = .chAvg c) ∨ (∃ c, r = .chAcc c) ∨ (∃ c, r = .chCur c) ∨
      (∃ c k, r = .chReserved c k) ∨ ∃ c k, r = .buf c k) →
    step s = .next { s with inputs := rest, ports := p, resp := .write false }) ∧
    ∀ (s : State) (p : Ports) (rest : List Stimulus), s.inputs = { ports := p, action := .busRead 0x00C#13 } :: rest →
      step s = .next { s with inputs := rest, ports := p, resp := .read 0#32 false }

/-- R83: the register map, entry by entry; no two addresses name one register, and the aligned addresses that name
none are exactly the gaps of the map and the indices beyond the parameters. -/
def Obligations.AddressMapIsExact : Prop :=
  (∀ (p : Params) (a b : Addr) (r : Reg), regAt p a = some r → regAt p b = some r → a = b) ∧
    (∀ (p : Params) (a : Addr), p.Legal → a.toNat % 4 = 0 →
      (regAt p a = none ↔
        (0x034 ≤ a.toNat ∧ a.toNat < 0x040) ∨ (0x058 ≤ a.toNat ∧ a.toNat < 0x060) ∨
          (0x08C ≤ a.toNat ∧ a.toNat < 0x0A0) ∨ (0x0A0 + 4 * p.coefMax ≤ a.toNat ∧ a.toNat < 0x0C0) ∨
          (0x0C0 + 4 * p.coefMax ≤ a.toNat ∧ a.toNat < 0x0E0) ∨ (0x0E0 + 4 * p.coefMax ≤ a.toNat ∧ a.toNat < 0x100) ∨
          (0x100 + 4 * p.coefMax ≤ a.toNat ∧ a.toNat < 0x200) ∨ (0x200 + 0x20 * p.nCh ≤ a.toNat ∧ a.toNat < 0x1000) ∨
          0x1000 + 0x80 * p.nCh ≤ a.toNat)) ∧
    ∀ p : Params, p.Legal →
      (∀ e ∈ [(0x000, Reg.id), (0x004, .param), (0x008, .param2), (0x00C, .cmd), (0x010, .status), (0x014, .events),
          (0x018, .irqEn), (0x01C, .tickCnt), (0x020, .arg0), (0x024, .arg1), (0x028, .arg2), (0x02C, .result),
          (0x030, .resultHi), (0x040, .protCfg), (0x044, .protStat), (0x048, .aggMask), (0x04C, .aggLimit),
          (0x050, .outEn), (0x054, .trip), (0x060, .ctrlCfg), (0x064, .duty), (0x068, .vref), (0x06C, .vrefEff),
          (0x070, .droopScale), (0x074, .gdSettle), (0x078, .gdAvg), (0x07C, .gdCnt), (0x080, .gdAcc), (0x084, .gdStat),
          (0x088, .compLen)], regAt p (BitVec.ofNat 13 e.1) = some e.2) ∧
        (∀ i, i < p.coefMax → ∀ e ∈ [(0x0A0, Reg.num i), (0x0C0, .den i), (0x0E0, .xh i), (0x100, .yh i)],
          regAt p (BitVec.ofNat 13 (e.1 + 4 * i)) = some e.2) ∧
        ∀ c, c < p.nCh →
          (∀ e ∈ [(0x00, Reg.chCfg c), (0x04, .chLimit c), (0x08, .chAvg c), (0x0C, .chAcc c), (0x10, .chCur c),
              (0x14, .chReserved c 5), (0x18, .chReserved c 6), (0x1C, .chReserved c 7)],
            regAt p (BitVec.ofNat 13 (0x200 + 0x20 * c + e.1)) = some e.2) ∧
          ∀ k, k < 32 → regAt p (BitVec.ofNat 13 (0x1000 + 0x80 * c + 4 * k)) = some (.buf c k)

/-- R83, R89: the step of a `BusWrite` to a mapped address other than `CMD` is the write of the register there, answered
with `err = 0`. R87, R89: a read-write register then reads back what was written, reserved bits as 0 (10_state.md R28,
R30, R43, R50, R52 to R54, R62, R64 to R66, R70, R71), and every other register reads as before. -/
def Obligations.ReadBackAfterWrite : Prop :=
  (∀ (s : State) (p : Ports) (a : Addr) (v : Word) (rest : List Stimulus) (r : Reg),
    s.inputs = { ports := p, action := .busWrite a v } :: rest → a ≠ 0x00C#13 → regAt s.params a = some r →
    step s = .next (writeReg r v { s with inputs := rest, ports := p, resp := .write false })) ∧
  ∀ (s : State) (v : Word), s.params.Legal → s.Shaped →
    readReg .irqEn (writeReg .irqEn v s) = v &&& 0x7#32 ∧
      readReg .arg0 (writeReg .arg0 v s) = v ∧ readReg .arg1 (writeReg .arg1 v s) = v ∧
      readReg .arg2 (writeReg .arg2 v s) = v ∧
      readReg .protCfg (writeReg .protCfg v s) = v &&& 0x3#32 ∧
      readReg .aggMask (writeReg .aggMask v s) = v &&& BitVec.ofNat 32 (2 ^ s.params.nCh - 1) ∧
      readReg .aggLimit (writeReg .aggLimit v s) = v ∧
      readReg .outEn (writeReg .outEn v s) = v &&& BitVec.ofNat 32 (2 ^ s.params.nOut - 1) ∧
      readReg .vref (writeReg .vref v s) = v ∧ readReg .droopScale (writeReg .droopScale v s) = v ∧
      readReg .gdSettle (writeReg .gdSettle v s) = v &&& 0xFFFF#32 ∧
      readReg .gdAvg (writeReg .gdAvg v s) = v &&& 0xFFFF#32 ∧
      readReg .compLen (writeReg .compLen v s) = v &&& 0xF0F#32 ∧
      (∀ i, i < s.params.coefMax → readReg (.num i) (writeReg (.num i) v s) = (v.setWidth 16).signExtend 32 ∧
        readReg (.den i) (writeReg (.den i) v s) = (v.setWidth 16).signExtend 32) ∧
      (∀ c, c < s.params.nCh → readReg (.chLimit c) (writeReg (.chLimit c) v s) = v) ∧
      ∀ r q : Reg, q ≠ r →
        (r ∈ [.irqEn, .arg0, .arg1, .arg2, .protCfg, .aggMask, .aggLimit, .outEn, .vref, .droopScale, .gdSettle, .gdAvg,
            .compLen, .duty, .ctrlCfg] ∨ (∃ i, r = .num i) ∨ (∃ i, r = .den i) ∨ ∃ c, r = .chLimit c) →
        readReg q (writeReg r v s) = readReg q s

/-- R273, R27, R55: a write to `STATUS`, `EVENTS` or `TRIP` clears exactly the bits written as 1; clearing the last
`ERR_*` bit also clears `LAST_ERR`; nothing else changes. -/
def Obligations.W1cWritesClearTheBitsWrittenAsOne : Prop :=
  ∀ (s : State) (v : Word),
    (∃ err last, writeReg .status v s = { s with status := { s.status with err := err, lastErr := last } } ∧
      (∀ k, k < 5 → err.getLsbD k = (s.status.err.getLsbD k && !v.getLsbD k)) ∧
      (err = 0#5 → last = 0#4) ∧ (err ≠ 0#5 → last = s.status.lastErr)) ∧
    (∃ ev, writeReg .events v s = { s with events := ev } ∧
      ∀ k, k < 3 → ev.getLsbD k = (s.events.getLsbD k && !v.getLsbD k)) ∧
    ∃ trip agg, writeReg .trip v s = { s with prot := { s.prot with trip := trip, tripAgg := agg } } ∧
      (∀ k, k < 16 → trip.getLsbD k = (s.prot.trip.getLsbD k && !v.getLsbD k)) ∧
      agg = (s.prot.tripAgg && !v.getLsbD 31)

/-- R42: a `CH_CFG` write stores the fields with `WIN_LOG2` 6 and 7 as 5; a changed window clears the channel, an
unchanged one leaves the buffer; no other channel and no limit changes. -/
def Obligations.ChCfgWriteClearsOnAWindowChange : Prop :=
  ∀ (s : State) (c : Nat) (v : Word), c < s.ch.length →
    ∃ y : Channel, writeReg (.chCfg c) v s = { s with ch := s.ch.set c y } ∧
      y.cfg.winLog2.val = min (v.extractLsb' 1 3).toNat 5 ∧ y.cfg.en = v.getLsbD 0 ∧ y.cfg.ofs = v.getLsbD 4 ∧
      y.cfg.cmp.bits = v.extractLsb' 5 2 ∧ (y.cfg.cls = .temperature ↔ v.getLsbD 7 = true) ∧
      y.limit = (s.chan c).limit ∧
      (y.cfg.winLog2 = (s.chan c).cfg.winLog2 →
        y.buf = (s.chan c).buf ∧ y.acc = (s.chan c).acc ∧ y.cur = (s.chan c).cur ∧ y.avg = (s.chan c).avg) ∧
      (y.cfg.winLog2 ≠ (s.chan c).cfg.winLog2 →
        (∀ k, y.slot k = 0#16) ∧ y.acc = 0#32 ∧ y.cur = 0#5 ∧ y.avg = 0#32) ∧
      (v.extractLsb' 1 3 ≠ 6#3 → v.extractLsb' 1 3 ≠ 7#3 →
        readReg (.chCfg c) (writeReg (.chCfg c) v s) = v &&& 0xFF#32)

/-- R60, R61, in part: a `CTRL_CFG` write stores MODE 3 as OFF and a channel that does not exist as `N_CH − 1`; a
`DUTY` write stores the clamped value; neither touches another register. -/
def Obligations.ControlWritesAreLegalised : Prop :=
  ∀ (s : State) (v : Word), s.params.Legal →
    (∃ k : Ctrl, writeReg .ctrlCfg v s = { s with ctrl := k } ∧
      k.mode.bits = (if v.extractLsb' 0 2 = 3#2 then 0#2 else v.extractLsb' 0 2) ∧
      k.fbCh.toNat = min (v.extractLsb' 4 4).toNat (s.params.nCh - 1) ∧
      k.droopCh.toNat = min (v.extractLsb' 12 4).toNat (s.params.nCh - 1) ∧
      k.droopEn = v.getLsbD 8 ∧ k.droopAdd = v.getLsbD 9 ∧ k.pwmEn = v.getLsbD 16 ∧
      k.duty = s.ctrl.duty ∧ k.vref = s.ctrl.vref ∧ k.vrefEff = s.ctrl.vrefEff ∧ k.droopScale = s.ctrl.droopScale) ∧
    ∃ d : Word, writeReg .duty v s = { s with ctrl := { s.ctrl with duty := d } } ∧
      d.toInt = min (max v.toInt s.params.dutyScale) (99 * s.params.dutyScale)

/-! ### Errors, events, interrupt (60_exceptions.md) -/

/-- R271: recording an error sets its `STATUS` bit, `LAST_ERR` and `EV_ERR`, and changes nothing else. -/
def Obligations.RecordErrorDoesExactlyThis : Prop :=
  ∀ (e : Err) (s : State), ∃ (k : Nat) (err : BitVec 5),
    (e, k) ∈ [(Err.illegalOp, 1), (.badIndex, 2), (.divZero, 3), (.badConfig, 4), (.busError, 5)] ∧
      (∀ j, j < 5 → err.getLsbD j = (s.status.err.getLsbD j || decide (j = k - 1))) ∧
      recordError e s = { s with
        status := { s.status with err := err, lastErr := BitVec.ofNat 4 k }, events := s.events ||| 0b100#3 }

/-- R27, R273, R280: the interrupt line is high exactly when some event is pending and enabled; an `ERR_*` bit stays 1
until `STATUS` is written, an event until `EVENTS` is written, and the interrupt line stays high while neither `EVENTS`
nor `IRQ_EN` is written; reset apart. -/
def Obligations.ErrorsAndEventsAreSticky : Prop :=
  (∀ s : State, irqO s = true ↔ ∃ k, k < 3 ∧ s.events.getLsbD k = true ∧ s.irqEn.getLsbD k = true) ∧
  ∀ (s t : State) (st : Stimulus) (rest : List Stimulus),
    s.inputs = st :: rest → step s = .next t → st.resets = false →
    (st.writes 0x010#13 = false → s.status.err &&& t.status.err = s.status.err) ∧
      (st.writes 0x014#13 = false → s.events &&& t.events = s.events) ∧
      (st.writes 0x014#13 = false → st.writes 0x018#13 = false → irqO s = true → irqO t = true)

/-! ### The whole machine -/

/-- Every invariant of the spec is kept by every step, from every state that has them (10_state.md R46, 43_control.md
R223, R231, 70_reset_and_hazards.md R301 and the field ranges of 10_state.md). -/
def Obligations.EveryStepKeepsEveryInvariant : Prop :=
  ∀ s t : State, s.Inv → step s = .next t → t.Inv

/-- R301: the reset state of every legal build has every invariant, its compensator configuration is legal, and `CRST`
would leave it as it is. -/
def Obligations.ResetHasEveryInvariant : Prop :=
  ∀ (p : Params) (s : State), p.Legal → s = State.resetWith p →
    s.Inv ∧ (1 ≤ s.comp.numLen.toNat ∧ s.comp.numLen.toNat ≤ p.coefMax) ∧
      (1 ≤ s.comp.denLen.toNat ∧ s.comp.denLen.toNat ≤ p.coefMax) ∧ s.comp.den.getD 0 0#16 ≠ 0#16 ∧
      (∀ x : Int, -32768 ≤ x → x ≤ 32767 →
        ∃ t, exec (.cstep x) s = .next t ∧ t.result.toInt = x ∧ t.status = s.status ∧ t.events = s.events) ∧
      exec .crst s = .next s

/-- R46: (a) to (d) hold of every channel at every step boundary, if they held before, and (e) follows from them. -/
def Obligations.ChannelsStayConserved : Prop :=
  (∀ s t : State, s.ChannelsConserved → step s = .next t → t.ChannelsConserved) ∧
    (∀ p : Params, (State.resetWith p).ChannelsConserved) ∧
    ∀ x : Channel, x.Conserved → |x.acc.toInt| ≤ 2 ^ 20

/-- R231: every value `DUTY` takes satisfies `S ≤ DUTY ≤ 99·S`, and only reset, a tick, a `DUTY` write, `CSTEP` and
`GSTEP` write it. -/
def Obligations.DutyStaysInRange : Prop :=
  (∀ p : Params, p.Legal → (State.resetWith p).DutyInRange) ∧
    (∀ s t : State, s.params.Legal → s.DutyInRange → step s = .next t → t.DutyInRange) ∧
    ∀ (s t : State) (st : Stimulus) (rest : List Stimulus), s.inputs = st :: rest → step s = .next t →
      st.resets = false → st.ticks = false → st.writes 0x064#13 = false →
      (∀ i, st.command = some i → writesDuty i = false) → t.ctrl.duty = s.ctrl.duty

/-- Every step completes with a next state: PCK never halts, stalls or refuses (60_exceptions.md R290,
93_implementation_defined.md U23). -/
def Obligations.EveryStepCompletes : Prop :=
  ∀ s : State, ∃ t, step s = .next t

/-- R22, R23, R24: `ID`, `PARAM` and `PARAM2` read the identification word and the build parameters in their fields,
and no step changes them. -/
def Obligations.IdentificationIsConstant : Prop :=
  (∀ s : State, s.params.Legal →
    readReg .id s = 0x50434B01#32 ∧
      (readReg .param s).toNat = s.params.nCh + s.params.nOut * 2 ^ 8 + s.params.coefMax * 2 ^ 16 +
        s.params.sfLog2 * 2 ^ 24 ∧
      (readReg .param2 s).toNat = s.params.dutyScale + s.params.midpoint * 2 ^ 16) ∧
    ∀ s t : State, step s = .next t →
      t.params = s.params ∧ readReg .id t = readReg .id s ∧ readReg .param t = readReg .param s ∧
        readReg .param2 t = readReg .param2 s

/-- R29: each tick step adds 1 to `TICK_CNT` modulo 2^32, reset sets it to 0, and nothing else writes it. -/
def Obligations.TickCounterCountsTicksOnly : Prop :=
  ∀ (s t : State) (st : Stimulus) (rest : List Stimulus), s.inputs = st :: rest → step s = .next t →
    (st.resets = true → t.tickCnt = 0#32) ∧
      (st.ticks = true → t.tickCnt.toNat = (s.tickCnt.toNat + 1) % 2 ^ 32) ∧
      (st.resets = false → st.ticks = false → t.tickCnt = s.tickCnt)

/-- R32, R240: no agent step but reset and a command of the arithmetic family writes `Z`, `N` or `V`. -/
def Obligations.OnlyArithmeticWritesFlags : Prop :=
  ∀ (s t : State) (st : Stimulus) (rest : List Stimulus), s.inputs = st :: rest → step s = .next t →
    st.resets = false → (∀ i, st.command = some i → isArith i = false) →
    t.status.z = s.status.z ∧ t.status.n = s.status.n ∧ t.status.v = s.status.v

/-- R30, R31: only a host write changes an `ARG` register, and only the commands whose rules name it write `RESULT` or
`RESULT_HI`; reset apart. -/
def Obligations.OperandAndResultWriters : Prop :=
  ∀ (s t : State) (st : Stimulus) (rest : List Stimulus), s.inputs = st :: rest → step s = .next t →
    st.resets = false →
    (st.writes 0x020#13 = false → t.arg0 = s.arg0) ∧ (st.writes 0x024#13 = false → t.arg1 = s.arg1) ∧
      (st.writes 0x028#13 = false → t.arg2 = s.arg2) ∧
      ((∀ i, st.command = some i → writesResult i = false) → t.result = s.result) ∧
      ((∀ i, st.command = some i → writesResultHi i = false) → t.resultHi = s.resultHi)

/-! ### Reset (70_reset_and_hazards.md) -/

/-- R300: reset is one step that sets every piece of PCK's state to its reset value and drives every pin low but
`duty_o = S`. The queue and the ports belong to the agents. -/
def Obligations.ResetStepGivesTheResetState : Prop :=
  ∀ (s : State) (p : Ports) (rest : List Stimulus), s.inputs = { ports := p, action := .reset } :: rest →
    ∃ t, step s = .next t ∧ t = { State.resetWith s.params with inputs := rest, ports := p } ∧
      (∀ o, outO t o = false) ∧ pwmEnO t = false ∧ irqO t = false ∧ dutyO t = BitVec.ofNat 32 s.params.dutyScale

/-- R76: what every register reads as after reset, for every build. -/
def Obligations.ResetRegisterValues : Prop :=
  ∀ p : Params, p.Legal →
    (∀ r ∈ [Reg.cmd, .status, .events, .irqEn, .tickCnt, .arg0, .arg1, .arg2, .result, .resultHi, .protStat, .aggMask,
        .aggLimit, .outEn, .trip, .ctrlCfg, .vref, .vrefEff, .droopScale, .gdSettle, .gdCnt, .gdAcc, .gdStat],
      readReg r (State.resetWith p) = 0#32) ∧
    readReg .id (State.resetWith p) = 0x50434B01#32 ∧
    (readReg .param (State.resetWith p)).toNat = p.nCh + p.nOut * 2 ^ 8 + p.coefMax * 2 ^ 16 + p.sfLog2 * 2 ^ 24 ∧
    (readReg .param2 (State.resetWith p)).toNat = p.dutyScale + p.midpoint * 2 ^ 16 ∧
    readReg .protCfg (State.resetWith p) = 0x1#32 ∧
    (readReg .duty (State.resetWith p)).toNat = p.dutyScale ∧
    readReg .gdAvg (State.resetWith p) = 1#32 ∧
    readReg .compLen (State.resetWith p) = 0x101#32 ∧
    (∀ i, i < p.coefMax → readReg (.num i) (State.resetWith p) = (if i = 0 then 1#32 else 0#32) ∧
      readReg (.den i) (State.resetWith p) = (if i = 0 then 1#32 else 0#32) ∧
      readReg (.xh i) (State.resetWith p) = 0#32 ∧ (readReg (.yh i) (State.resetWith p)).toNat = p.dutyScale) ∧
    ∀ c, c < p.nCh →
      (∀ r ∈ [Reg.chCfg c, .chLimit c, .chAvg c, .chAcc c, .chCur c], readReg r (State.resetWith p) = 0#32) ∧
        ∀ k, k < 32 → readReg (.buf c k) (State.resetWith p) = 0#32
end

