-- ==== Sys2Proof/Laws/Notation.lean ====
section
/-!
SUPPORT. The notation of R5: the range of each narrowing, when it changes nothing, and the bits of the per-channel registers.
-/

namespace Sys2Proof.Machine

/-! ### Signed reading and narrowing -/

theorem sext_ge {w : Nat} (v : BitVec w) : -(2 ^ (w - 1) : Int) ≤ sext v := by
  have := BitVec.le_toInt v
  simpa [sext] using this

theorem sext_lt {w : Nat} (v : BitVec w) : sext v < (2 ^ (w - 1) : Int) := by
  simpa [sext] using BitVec.toInt_lt (x := v)

theorem sext32_bounds (v : BitVec 32) : -2147483648 ≤ sext v ∧ sext v ≤ 2147483647 := by
  have h1 := sext_ge v
  have h2 := sext_lt v
  norm_num at h1 h2
  omega

theorem sext16_bounds (v : BitVec 16) : -32768 ≤ sext v ∧ sext v ≤ 32767 := by
  have h1 := sext_ge v
  have h2 := sext_lt v
  norm_num at h1 h2
  omega

/-- Storing a value that fits 32 bits and reading it back changes nothing. -/
theorem sext_ofInt32 (v : Int) (h1 : -2147483648 ≤ v) (h2 : v ≤ 2147483647) : sext (BitVec.ofInt 32 v) = v := by
  simp only [sext, BitVec.toInt_ofInt]
  exact Int.bmod_eq_of_le (by norm_num; omega) (by norm_num; omega)

/-- Storing a value that fits 16 bits and reading it back changes nothing. -/
theorem sext_ofInt16 (v : Int) (h1 : -32768 ≤ v) (h2 : v ≤ 32767) : sext (BitVec.ofInt 16 v) = v := by
  simp only [sext, BitVec.toInt_ofInt]
  exact Int.bmod_eq_of_le (by norm_num; omega) (by norm_num; omega)

theorem ofInt_sext {w : Nat} (v : BitVec w) : BitVec.ofInt w (sext v) = v := by
  simp [sext]

/-! ### Saturation and clamping -/

theorem sat_bounds (n : Nat) (v : Int) : -(2 ^ (n - 1)) ≤ sat n v ∧ sat n v ≤ 2 ^ (n - 1) - 1 := by
  have : (0 : Int) < 2 ^ (n - 1) := by positivity
  unfold sat
  omega

theorem sat32_bounds (v : Int) : -2147483648 ≤ sat 32 v ∧ sat 32 v ≤ 2147483647 := by
  have := sat_bounds 32 v
  norm_num at this
  omega

theorem sat16_bounds (v : Int) : -32768 ≤ sat 16 v ∧ sat 16 v ≤ 32767 := by
  have := sat_bounds 16 v
  norm_num at this
  omega

/-- A value that already fits is not changed. -/
theorem sat_eq_self (n : Nat) (v : Int) (h1 : -(2 ^ (n - 1)) ≤ v) (h2 : v ≤ 2 ^ (n - 1) - 1) : sat n v = v := by
  unfold sat
  omega

theorem clamp_bounds (v lo hi : Int) (h : lo ≤ hi) : lo ≤ clamp v lo hi ∧ clamp v lo hi ≤ hi := by
  unfold clamp
  omega

/-- R5: "when `lo > hi` the result is `hi`". -/
theorem clamp_of_gt (v lo hi : Int) (h : hi < lo) : clamp v lo hi = hi := by
  unfold clamp
  omega

/-! ### Per-channel and per-output registers -/

theorem getLsbD_writeBit (m : BitVec 16) (i j : Nat) (b : Bool) (hj : j < 16) :
    (writeBit m i b).getLsbD j = if j = i then b else m.getLsbD j := by
  by_cases h : j = i
  · subst h
    cases b <;> simp [writeBit, hj]
  · cases b <;> simp [writeBit, hj, h]

theorem getLsbD_foldl_writeBit (is : List Nat) (m : BitVec 16) (j : Nat) (hj : j < 16) :
    (is.foldl (fun m i => writeBit m i true) m).getLsbD j = (m.getLsbD j || decide (j ∈ is)) := by
  induction is generalizing m with
  | nil => simp
  | cons i is ih =>
    rw [List.foldl_cons, ih, getLsbD_writeBit m i j true hj]
    by_cases h : j = i <;> simp [h]

/-- `bitsOf` has a 1 exactly at the listed indices. -/
theorem getLsbD_bitsOf (is : List Nat) (j : Nat) (hj : j < 16) : (bitsOf is).getLsbD j = decide (j ∈ is) := by
  simp [bitsOf, getLsbD_foldl_writeBit is 0#16 j hj]

/-- `lowBits n` has a 1 exactly below `n`. -/
theorem getLsbD_lowBits (n j : Nat) (hj : j < 16) : (lowBits n).getLsbD j = decide (j < n) := by
  rw [lowBits, BitVec.getLsbD_ofNat, Nat.testBit_two_pow_sub_one]
  simp [hj]

end Sys2Proof.Machine
end

