-- ==== Sys2Proof/Laws/State.lean ====
section
/-!
SUPPORT. What each named update of the state does to each field: one lemma per field per update, so that no later proof
unfolds a record update.
-/

namespace Sys2Proof.Machine

variable (s : State)

/-! ### `raiseEvent` -/

@[simp] theorem raiseEvent_params (e : BitVec 3) : (raiseEvent e s).params = s.params := rfl
@[simp] theorem raiseEvent_inputs (e : BitVec 3) : (raiseEvent e s).inputs = s.inputs := rfl
@[simp] theorem raiseEvent_ports (e : BitVec 3) : (raiseEvent e s).ports = s.ports := rfl
@[simp] theorem raiseEvent_resp (e : BitVec 3) : (raiseEvent e s).resp = s.resp := rfl
@[simp] theorem raiseEvent_status (e : BitVec 3) : (raiseEvent e s).status = s.status := rfl
@[simp] theorem raiseEvent_events (e : BitVec 3) : (raiseEvent e s).events = s.events ||| e := rfl
@[simp] theorem raiseEvent_irqEn (e : BitVec 3) : (raiseEvent e s).irqEn = s.irqEn := rfl
@[simp] theorem raiseEvent_tickCnt (e : BitVec 3) : (raiseEvent e s).tickCnt = s.tickCnt := rfl
@[simp] theorem raiseEvent_arg0 (e : BitVec 3) : (raiseEvent e s).arg0 = s.arg0 := rfl
@[simp] theorem raiseEvent_arg1 (e : BitVec 3) : (raiseEvent e s).arg1 = s.arg1 := rfl
@[simp] theorem raiseEvent_arg2 (e : BitVec 3) : (raiseEvent e s).arg2 = s.arg2 := rfl
@[simp] theorem raiseEvent_result (e : BitVec 3) : (raiseEvent e s).result = s.result := rfl
@[simp] theorem raiseEvent_resultHi (e : BitVec 3) : (raiseEvent e s).resultHi = s.resultHi := rfl
@[simp] theorem raiseEvent_ch (e : BitVec 3) : (raiseEvent e s).ch = s.ch := rfl
@[simp] theorem raiseEvent_prot (e : BitVec 3) : (raiseEvent e s).prot = s.prot := rfl
@[simp] theorem raiseEvent_ctrl (e : BitVec 3) : (raiseEvent e s).ctrl = s.ctrl := rfl
@[simp] theorem raiseEvent_gd (e : BitVec 3) : (raiseEvent e s).gd = s.gd := rfl
@[simp] theorem raiseEvent_comp (e : BitVec 3) : (raiseEvent e s).comp = s.comp := rfl

/-! ### `recordError` -/

@[simp] theorem recordError_params (e : Err) : (recordError e s).params = s.params := rfl
@[simp] theorem recordError_inputs (e : Err) : (recordError e s).inputs = s.inputs := rfl
@[simp] theorem recordError_ports (e : Err) : (recordError e s).ports = s.ports := rfl
@[simp] theorem recordError_resp (e : Err) : (recordError e s).resp = s.resp := rfl
@[simp] theorem recordError_status (e : Err) : (recordError e s).status = { s.status with err := s.status.err ||| BitVec.twoPow 5 (e.code - 1), lastErr := BitVec.ofNat 4 e.code } := rfl
@[simp] theorem recordError_events (e : Err) : (recordError e s).events = s.events ||| evErr := rfl
@[simp] theorem recordError_irqEn (e : Err) : (recordError e s).irqEn = s.irqEn := rfl
@[simp] theorem recordError_tickCnt (e : Err) : (recordError e s).tickCnt = s.tickCnt := rfl
@[simp] theorem recordError_arg0 (e : Err) : (recordError e s).arg0 = s.arg0 := rfl
@[simp] theorem recordError_arg1 (e : Err) : (recordError e s).arg1 = s.arg1 := rfl
@[simp] theorem recordError_arg2 (e : Err) : (recordError e s).arg2 = s.arg2 := rfl
@[simp] theorem recordError_result (e : Err) : (recordError e s).result = s.result := rfl
@[simp] theorem recordError_resultHi (e : Err) : (recordError e s).resultHi = s.resultHi := rfl
@[simp] theorem recordError_ch (e : Err) : (recordError e s).ch = s.ch := rfl
@[simp] theorem recordError_prot (e : Err) : (recordError e s).prot = s.prot := rfl
@[simp] theorem recordError_ctrl (e : Err) : (recordError e s).ctrl = s.ctrl := rfl
@[simp] theorem recordError_gd (e : Err) : (recordError e s).gd = s.gd := rfl
@[simp] theorem recordError_comp (e : Err) : (recordError e s).comp = s.comp := rfl

/-! ### `clearErrors` -/

@[simp] theorem clearErrors_params (m : BitVec 5) : (clearErrors m s).params = s.params := rfl
@[simp] theorem clearErrors_inputs (m : BitVec 5) : (clearErrors m s).inputs = s.inputs := rfl
@[simp] theorem clearErrors_ports (m : BitVec 5) : (clearErrors m s).ports = s.ports := rfl
@[simp] theorem clearErrors_resp (m : BitVec 5) : (clearErrors m s).resp = s.resp := rfl
@[simp] theorem clearErrors_status (m : BitVec 5) : (clearErrors m s).status = { s.status with err := s.status.err &&& ~~~m, lastErr := if s.status.err &&& ~~~m = 0#5 then 0#4 else s.status.lastErr } := rfl
@[simp] theorem clearErrors_events (m : BitVec 5) : (clearErrors m s).events = s.events := rfl
@[simp] theorem clearErrors_irqEn (m : BitVec 5) : (clearErrors m s).irqEn = s.irqEn := rfl
@[simp] theorem clearErrors_tickCnt (m : BitVec 5) : (clearErrors m s).tickCnt = s.tickCnt := rfl
@[simp] theorem clearErrors_arg0 (m : BitVec 5) : (clearErrors m s).arg0 = s.arg0 := rfl
@[simp] theorem clearErrors_arg1 (m : BitVec 5) : (clearErrors m s).arg1 = s.arg1 := rfl
@[simp] theorem clearErrors_arg2 (m : BitVec 5) : (clearErrors m s).arg2 = s.arg2 := rfl
@[simp] theorem clearErrors_result (m : BitVec 5) : (clearErrors m s).result = s.result := rfl
@[simp] theorem clearErrors_resultHi (m : BitVec 5) : (clearErrors m s).resultHi = s.resultHi := rfl
@[simp] theorem clearErrors_ch (m : BitVec 5) : (clearErrors m s).ch = s.ch := rfl
@[simp] theorem clearErrors_prot (m : BitVec 5) : (clearErrors m s).prot = s.prot := rfl
@[simp] theorem clearErrors_ctrl (m : BitVec 5) : (clearErrors m s).ctrl = s.ctrl := rfl
@[simp] theorem clearErrors_gd (m : BitVec 5) : (clearErrors m s).gd = s.gd := rfl
@[simp] theorem clearErrors_comp (m : BitVec 5) : (clearErrors m s).comp = s.comp := rfl

/-! ### `setChan` -/

@[simp] theorem setChan_params (c : Nat) (x : Channel) : (s.setChan c x).params = s.params := rfl
@[simp] theorem setChan_inputs (c : Nat) (x : Channel) : (s.setChan c x).inputs = s.inputs := rfl
@[simp] theorem setChan_ports (c : Nat) (x : Channel) : (s.setChan c x).ports = s.ports := rfl
@[simp] theorem setChan_resp (c : Nat) (x : Channel) : (s.setChan c x).resp = s.resp := rfl
@[simp] theorem setChan_status (c : Nat) (x : Channel) : (s.setChan c x).status = s.status := rfl
@[simp] theorem setChan_events (c : Nat) (x : Channel) : (s.setChan c x).events = s.events := rfl
@[simp] theorem setChan_irqEn (c : Nat) (x : Channel) : (s.setChan c x).irqEn = s.irqEn := rfl
@[simp] theorem setChan_tickCnt (c : Nat) (x : Channel) : (s.setChan c x).tickCnt = s.tickCnt := rfl
@[simp] theorem setChan_arg0 (c : Nat) (x : Channel) : (s.setChan c x).arg0 = s.arg0 := rfl
@[simp] theorem setChan_arg1 (c : Nat) (x : Channel) : (s.setChan c x).arg1 = s.arg1 := rfl
@[simp] theorem setChan_arg2 (c : Nat) (x : Channel) : (s.setChan c x).arg2 = s.arg2 := rfl
@[simp] theorem setChan_result (c : Nat) (x : Channel) : (s.setChan c x).result = s.result := rfl
@[simp] theorem setChan_resultHi (c : Nat) (x : Channel) : (s.setChan c x).resultHi = s.resultHi := rfl
@[simp] theorem setChan_ch (c : Nat) (x : Channel) : (s.setChan c x).ch = s.ch.set c x := rfl
@[simp] theorem setChan_prot (c : Nat) (x : Channel) : (s.setChan c x).prot = s.prot := rfl
@[simp] theorem setChan_ctrl (c : Nat) (x : Channel) : (s.setChan c x).ctrl = s.ctrl := rfl
@[simp] theorem setChan_gd (c : Nat) (x : Channel) : (s.setChan c x).gd = s.gd := rfl
@[simp] theorem setChan_comp (c : Nat) (x : Channel) : (s.setChan c x).comp = s.comp := rfl

/-! ### `withResult` -/

@[simp] theorem withResult_params (r : Word) : (withResult r s).params = s.params := rfl
@[simp] theorem withResult_inputs (r : Word) : (withResult r s).inputs = s.inputs := rfl
@[simp] theorem withResult_ports (r : Word) : (withResult r s).ports = s.ports := rfl
@[simp] theorem withResult_resp (r : Word) : (withResult r s).resp = s.resp := rfl
@[simp] theorem withResult_status (r : Word) : (withResult r s).status = s.status := rfl
@[simp] theorem withResult_events (r : Word) : (withResult r s).events = s.events := rfl
@[simp] theorem withResult_irqEn (r : Word) : (withResult r s).irqEn = s.irqEn := rfl
@[simp] theorem withResult_tickCnt (r : Word) : (withResult r s).tickCnt = s.tickCnt := rfl
@[simp] theorem withResult_arg0 (r : Word) : (withResult r s).arg0 = s.arg0 := rfl
@[simp] theorem withResult_arg1 (r : Word) : (withResult r s).arg1 = s.arg1 := rfl
@[simp] theorem withResult_arg2 (r : Word) : (withResult r s).arg2 = s.arg2 := rfl
@[simp] theorem withResult_result (r : Word) : (withResult r s).result = r := rfl
@[simp] theorem withResult_resultHi (r : Word) : (withResult r s).resultHi = s.resultHi := rfl
@[simp] theorem withResult_ch (r : Word) : (withResult r s).ch = s.ch := rfl
@[simp] theorem withResult_prot (r : Word) : (withResult r s).prot = s.prot := rfl
@[simp] theorem withResult_ctrl (r : Word) : (withResult r s).ctrl = s.ctrl := rfl
@[simp] theorem withResult_gd (r : Word) : (withResult r s).gd = s.gd := rfl
@[simp] theorem withResult_comp (r : Word) : (withResult r s).comp = s.comp := rfl

/-! ### `withResultHi` -/

@[simp] theorem withResultHi_params (r : Word) : (withResultHi r s).params = s.params := rfl
@[simp] theorem withResultHi_inputs (r : Word) : (withResultHi r s).inputs = s.inputs := rfl
@[simp] theorem withResultHi_ports (r : Word) : (withResultHi r s).ports = s.ports := rfl
@[simp] theorem withResultHi_resp (r : Word) : (withResultHi r s).resp = s.resp := rfl
@[simp] theorem withResultHi_status (r : Word) : (withResultHi r s).status = s.status := rfl
@[simp] theorem withResultHi_events (r : Word) : (withResultHi r s).events = s.events := rfl
@[simp] theorem withResultHi_irqEn (r : Word) : (withResultHi r s).irqEn = s.irqEn := rfl
@[simp] theorem withResultHi_tickCnt (r : Word) : (withResultHi r s).tickCnt = s.tickCnt := rfl
@[simp] theorem withResultHi_arg0 (r : Word) : (withResultHi r s).arg0 = s.arg0 := rfl
@[simp] theorem withResultHi_arg1 (r : Word) : (withResultHi r s).arg1 = s.arg1 := rfl
@[simp] theorem withResultHi_arg2 (r : Word) : (withResultHi r s).arg2 = s.arg2 := rfl
@[simp] theorem withResultHi_result (r : Word) : (withResultHi r s).result = s.result := rfl
@[simp] theorem withResultHi_resultHi (r : Word) : (withResultHi r s).resultHi = r := rfl
@[simp] theorem withResultHi_ch (r : Word) : (withResultHi r s).ch = s.ch := rfl
@[simp] theorem withResultHi_prot (r : Word) : (withResultHi r s).prot = s.prot := rfl
@[simp] theorem withResultHi_ctrl (r : Word) : (withResultHi r s).ctrl = s.ctrl := rfl
@[simp] theorem withResultHi_gd (r : Word) : (withResultHi r s).gd = s.gd := rfl
@[simp] theorem withResultHi_comp (r : Word) : (withResultHi r s).comp = s.comp := rfl

/-! ### `setDuty` -/

@[simp] theorem setDuty_params (v : Int) : (setDuty v s).params = s.params := rfl
@[simp] theorem setDuty_inputs (v : Int) : (setDuty v s).inputs = s.inputs := rfl
@[simp] theorem setDuty_ports (v : Int) : (setDuty v s).ports = s.ports := rfl
@[simp] theorem setDuty_resp (v : Int) : (setDuty v s).resp = s.resp := rfl
@[simp] theorem setDuty_status (v : Int) : (setDuty v s).status = s.status := rfl
@[simp] theorem setDuty_events (v : Int) : (setDuty v s).events = s.events := rfl
@[simp] theorem setDuty_irqEn (v : Int) : (setDuty v s).irqEn = s.irqEn := rfl
@[simp] theorem setDuty_tickCnt (v : Int) : (setDuty v s).tickCnt = s.tickCnt := rfl
@[simp] theorem setDuty_arg0 (v : Int) : (setDuty v s).arg0 = s.arg0 := rfl
@[simp] theorem setDuty_arg1 (v : Int) : (setDuty v s).arg1 = s.arg1 := rfl
@[simp] theorem setDuty_arg2 (v : Int) : (setDuty v s).arg2 = s.arg2 := rfl
@[simp] theorem setDuty_result (v : Int) : (setDuty v s).result = s.result := rfl
@[simp] theorem setDuty_resultHi (v : Int) : (setDuty v s).resultHi = s.resultHi := rfl
@[simp] theorem setDuty_ch (v : Int) : (setDuty v s).ch = s.ch := rfl
@[simp] theorem setDuty_prot (v : Int) : (setDuty v s).prot = s.prot := rfl
@[simp] theorem setDuty_ctrl (v : Int) : (setDuty v s).ctrl = { s.ctrl with duty := BitVec.ofInt 32 (clamp v s.scale (99 * s.scale)) } := rfl
@[simp] theorem setDuty_gd (v : Int) : (setDuty v s).gd = s.gd := rfl
@[simp] theorem setDuty_comp (v : Int) : (setDuty v s).comp = s.comp := rfl

/-! ### `setVrefEff` -/

@[simp] theorem setVrefEff_params (v : Int) : (setVrefEff v s).params = s.params := rfl
@[simp] theorem setVrefEff_inputs (v : Int) : (setVrefEff v s).inputs = s.inputs := rfl
@[simp] theorem setVrefEff_ports (v : Int) : (setVrefEff v s).ports = s.ports := rfl
@[simp] theorem setVrefEff_resp (v : Int) : (setVrefEff v s).resp = s.resp := rfl
@[simp] theorem setVrefEff_status (v : Int) : (setVrefEff v s).status = s.status := rfl
@[simp] theorem setVrefEff_events (v : Int) : (setVrefEff v s).events = s.events := rfl
@[simp] theorem setVrefEff_irqEn (v : Int) : (setVrefEff v s).irqEn = s.irqEn := rfl
@[simp] theorem setVrefEff_tickCnt (v : Int) : (setVrefEff v s).tickCnt = s.tickCnt := rfl
@[simp] theorem setVrefEff_arg0 (v : Int) : (setVrefEff v s).arg0 = s.arg0 := rfl
@[simp] theorem setVrefEff_arg1 (v : Int) : (setVrefEff v s).arg1 = s.arg1 := rfl
@[simp] theorem setVrefEff_arg2 (v : Int) : (setVrefEff v s).arg2 = s.arg2 := rfl
@[simp] theorem setVrefEff_result (v : Int) : (setVrefEff v s).result = s.result := rfl
@[simp] theorem setVrefEff_resultHi (v : Int) : (setVrefEff v s).resultHi = s.resultHi := rfl
@[simp] theorem setVrefEff_ch (v : Int) : (setVrefEff v s).ch = s.ch := rfl
@[simp] theorem setVrefEff_prot (v : Int) : (setVrefEff v s).prot = s.prot := rfl
@[simp] theorem setVrefEff_ctrl (v : Int) : (setVrefEff v s).ctrl = { s.ctrl with vrefEff := BitVec.ofInt 32 v } := rfl
@[simp] theorem setVrefEff_gd (v : Int) : (setVrefEff v s).gd = s.gd := rfl
@[simp] theorem setVrefEff_comp (v : Int) : (setVrefEff v s).comp = s.comp := rfl

/-! ### `enterLatch` -/

@[simp] theorem enterLatch_params (r : BitVec 8) : (enterLatch r s).params = s.params := rfl
@[simp] theorem enterLatch_inputs (r : BitVec 8) : (enterLatch r s).inputs = s.inputs := rfl
@[simp] theorem enterLatch_ports (r : BitVec 8) : (enterLatch r s).ports = s.ports := rfl
@[simp] theorem enterLatch_resp (r : BitVec 8) : (enterLatch r s).resp = s.resp := rfl
@[simp] theorem enterLatch_status (r : BitVec 8) : (enterLatch r s).status = s.status := rfl
@[simp] theorem enterLatch_events (r : BitVec 8) : (enterLatch r s).events = s.events ||| evLatch := rfl
@[simp] theorem enterLatch_irqEn (r : BitVec 8) : (enterLatch r s).irqEn = s.irqEn := rfl
@[simp] theorem enterLatch_tickCnt (r : BitVec 8) : (enterLatch r s).tickCnt = s.tickCnt := rfl
@[simp] theorem enterLatch_arg0 (r : BitVec 8) : (enterLatch r s).arg0 = s.arg0 := rfl
@[simp] theorem enterLatch_arg1 (r : BitVec 8) : (enterLatch r s).arg1 = s.arg1 := rfl
@[simp] theorem enterLatch_arg2 (r : BitVec 8) : (enterLatch r s).arg2 = s.arg2 := rfl
@[simp] theorem enterLatch_result (r : BitVec 8) : (enterLatch r s).result = s.result := rfl
@[simp] theorem enterLatch_resultHi (r : BitVec 8) : (enterLatch r s).resultHi = s.resultHi := rfl
@[simp] theorem enterLatch_ch (r : BitVec 8) : (enterLatch r s).ch = s.ch := rfl
@[simp] theorem enterLatch_prot (r : BitVec 8) : (enterLatch r s).prot = { s.prot with latched := true, reason := r } := rfl
@[simp] theorem enterLatch_ctrl (r : BitVec 8) : (enterLatch r s).ctrl = s.ctrl := rfl
@[simp] theorem enterLatch_gd (r : BitVec 8) : (enterLatch r s).gd = s.gd := rfl
@[simp] theorem enterLatch_comp (r : BitVec 8) : (enterLatch r s).comp = s.comp := rfl

/-! ### `present` -/

@[simp] theorem present_params (st : Stimulus) (rest : List Stimulus) : (present st rest s).params = s.params := rfl
@[simp] theorem present_inputs (st : Stimulus) (rest : List Stimulus) : (present st rest s).inputs = rest := rfl
@[simp] theorem present_ports (st : Stimulus) (rest : List Stimulus) : (present st rest s).ports = st.ports := rfl
@[simp] theorem present_resp (st : Stimulus) (rest : List Stimulus) : (present st rest s).resp = .idle := rfl
@[simp] theorem present_status (st : Stimulus) (rest : List Stimulus) : (present st rest s).status = s.status := rfl
@[simp] theorem present_events (st : Stimulus) (rest : List Stimulus) : (present st rest s).events = s.events := rfl
@[simp] theorem present_irqEn (st : Stimulus) (rest : List Stimulus) : (present st rest s).irqEn = s.irqEn := rfl
@[simp] theorem present_tickCnt (st : Stimulus) (rest : List Stimulus) : (present st rest s).tickCnt = s.tickCnt := rfl
@[simp] theorem present_arg0 (st : Stimulus) (rest : List Stimulus) : (present st rest s).arg0 = s.arg0 := rfl
@[simp] theorem present_arg1 (st : Stimulus) (rest : List Stimulus) : (present st rest s).arg1 = s.arg1 := rfl
@[simp] theorem present_arg2 (st : Stimulus) (rest : List Stimulus) : (present st rest s).arg2 = s.arg2 := rfl
@[simp] theorem present_result (st : Stimulus) (rest : List Stimulus) : (present st rest s).result = s.result := rfl
@[simp] theorem present_resultHi (st : Stimulus) (rest : List Stimulus) : (present st rest s).resultHi = s.resultHi := rfl
@[simp] theorem present_ch (st : Stimulus) (rest : List Stimulus) : (present st rest s).ch = s.ch := rfl
@[simp] theorem present_prot (st : Stimulus) (rest : List Stimulus) : (present st rest s).prot = s.prot := rfl
@[simp] theorem present_ctrl (st : Stimulus) (rest : List Stimulus) : (present st rest s).ctrl = s.ctrl := rfl
@[simp] theorem present_gd (st : Stimulus) (rest : List Stimulus) : (present st rest s).gd = s.gd := rfl
@[simp] theorem present_comp (st : Stimulus) (rest : List Stimulus) : (present st rest s).comp = s.comp := rfl

/-! ### `respond` -/

@[simp] theorem respond_params (r : BusResp) : (respond r s).params = s.params := rfl
@[simp] theorem respond_inputs (r : BusResp) : (respond r s).inputs = s.inputs := rfl
@[simp] theorem respond_ports (r : BusResp) : (respond r s).ports = s.ports := rfl
@[simp] theorem respond_resp (r : BusResp) : (respond r s).resp = r := rfl
@[simp] theorem respond_status (r : BusResp) : (respond r s).status = s.status := rfl
@[simp] theorem respond_events (r : BusResp) : (respond r s).events = s.events := rfl
@[simp] theorem respond_irqEn (r : BusResp) : (respond r s).irqEn = s.irqEn := rfl
@[simp] theorem respond_tickCnt (r : BusResp) : (respond r s).tickCnt = s.tickCnt := rfl
@[simp] theorem respond_arg0 (r : BusResp) : (respond r s).arg0 = s.arg0 := rfl
@[simp] theorem respond_arg1 (r : BusResp) : (respond r s).arg1 = s.arg1 := rfl
@[simp] theorem respond_arg2 (r : BusResp) : (respond r s).arg2 = s.arg2 := rfl
@[simp] theorem respond_result (r : BusResp) : (respond r s).result = s.result := rfl
@[simp] theorem respond_resultHi (r : BusResp) : (respond r s).resultHi = s.resultHi := rfl
@[simp] theorem respond_ch (r : BusResp) : (respond r s).ch = s.ch := rfl
@[simp] theorem respond_prot (r : BusResp) : (respond r s).prot = s.prot := rfl
@[simp] theorem respond_ctrl (r : BusResp) : (respond r s).ctrl = s.ctrl := rfl
@[simp] theorem respond_gd (r : BusResp) : (respond r s).gd = s.gd := rfl
@[simp] theorem respond_comp (r : BusResp) : (respond r s).comp = s.comp := rfl

/-! ### `setFlags` -/

@[simp] theorem setFlags_params (r : Int) (v : Bool) : (setFlags r v s).params = s.params := rfl
@[simp] theorem setFlags_inputs (r : Int) (v : Bool) : (setFlags r v s).inputs = s.inputs := rfl
@[simp] theorem setFlags_ports (r : Int) (v : Bool) : (setFlags r v s).ports = s.ports := rfl
@[simp] theorem setFlags_resp (r : Int) (v : Bool) : (setFlags r v s).resp = s.resp := rfl
@[simp] theorem setFlags_status (r : Int) (v : Bool) : (setFlags r v s).status = { s.status with z := decide (r = 0), n := decide (r < 0), v := v } := rfl
@[simp] theorem setFlags_events (r : Int) (v : Bool) : (setFlags r v s).events = s.events := rfl
@[simp] theorem setFlags_irqEn (r : Int) (v : Bool) : (setFlags r v s).irqEn = s.irqEn := rfl
@[simp] theorem setFlags_tickCnt (r : Int) (v : Bool) : (setFlags r v s).tickCnt = s.tickCnt := rfl
@[simp] theorem setFlags_arg0 (r : Int) (v : Bool) : (setFlags r v s).arg0 = s.arg0 := rfl
@[simp] theorem setFlags_arg1 (r : Int) (v : Bool) : (setFlags r v s).arg1 = s.arg1 := rfl
@[simp] theorem setFlags_arg2 (r : Int) (v : Bool) : (setFlags r v s).arg2 = s.arg2 := rfl
@[simp] theorem setFlags_result (r : Int) (v : Bool) : (setFlags r v s).result = s.result := rfl
@[simp] theorem setFlags_resultHi (r : Int) (v : Bool) : (setFlags r v s).resultHi = s.resultHi := rfl
@[simp] theorem setFlags_ch (r : Int) (v : Bool) : (setFlags r v s).ch = s.ch := rfl
@[simp] theorem setFlags_prot (r : Int) (v : Bool) : (setFlags r v s).prot = s.prot := rfl
@[simp] theorem setFlags_ctrl (r : Int) (v : Bool) : (setFlags r v s).ctrl = s.ctrl := rfl
@[simp] theorem setFlags_gd (r : Int) (v : Bool) : (setFlags r v s).gd = s.gd := rfl
@[simp] theorem setFlags_comp (r : Int) (v : Bool) : (setFlags r v s).comp = s.comp := rfl

/-! ### `arithResult` -/

@[simp] theorem arithResult_params (r : Int) (v : Bool) : (arithResult r v s).params = s.params := rfl
@[simp] theorem arithResult_inputs (r : Int) (v : Bool) : (arithResult r v s).inputs = s.inputs := rfl
@[simp] theorem arithResult_ports (r : Int) (v : Bool) : (arithResult r v s).ports = s.ports := rfl
@[simp] theorem arithResult_resp (r : Int) (v : Bool) : (arithResult r v s).resp = s.resp := rfl
@[simp] theorem arithResult_status (r : Int) (v : Bool) : (arithResult r v s).status = { s.status with z := decide (r = 0), n := decide (r < 0), v := v } := rfl
@[simp] theorem arithResult_events (r : Int) (v : Bool) : (arithResult r v s).events = s.events := rfl
@[simp] theorem arithResult_irqEn (r : Int) (v : Bool) : (arithResult r v s).irqEn = s.irqEn := rfl
@[simp] theorem arithResult_tickCnt (r : Int) (v : Bool) : (arithResult r v s).tickCnt = s.tickCnt := rfl
@[simp] theorem arithResult_arg0 (r : Int) (v : Bool) : (arithResult r v s).arg0 = s.arg0 := rfl
@[simp] theorem arithResult_arg1 (r : Int) (v : Bool) : (arithResult r v s).arg1 = s.arg1 := rfl
@[simp] theorem arithResult_arg2 (r : Int) (v : Bool) : (arithResult r v s).arg2 = s.arg2 := rfl
@[simp] theorem arithResult_result (r : Int) (v : Bool) : (arithResult r v s).result = BitVec.ofInt 32 r := rfl
@[simp] theorem arithResult_resultHi (r : Int) (v : Bool) : (arithResult r v s).resultHi = s.resultHi := rfl
@[simp] theorem arithResult_ch (r : Int) (v : Bool) : (arithResult r v s).ch = s.ch := rfl
@[simp] theorem arithResult_prot (r : Int) (v : Bool) : (arithResult r v s).prot = s.prot := rfl
@[simp] theorem arithResult_ctrl (r : Int) (v : Bool) : (arithResult r v s).ctrl = s.ctrl := rfl
@[simp] theorem arithResult_gd (r : Int) (v : Bool) : (arithResult r v s).gd = s.gd := rfl
@[simp] theorem arithResult_comp (r : Int) (v : Bool) : (arithResult r v s).comp = s.comp := rfl

/-! ### `recordTrips` -/

@[simp] theorem recordTrips_params (h : List Nat) (a : Bool) : (recordTrips h a s).params = s.params := rfl
@[simp] theorem recordTrips_inputs (h : List Nat) (a : Bool) : (recordTrips h a s).inputs = s.inputs := rfl
@[simp] theorem recordTrips_ports (h : List Nat) (a : Bool) : (recordTrips h a s).ports = s.ports := rfl
@[simp] theorem recordTrips_resp (h : List Nat) (a : Bool) : (recordTrips h a s).resp = s.resp := rfl
@[simp] theorem recordTrips_status (h : List Nat) (a : Bool) : (recordTrips h a s).status = s.status := rfl
@[simp] theorem recordTrips_events (h : List Nat) (a : Bool) : (recordTrips h a s).events = s.events := rfl
@[simp] theorem recordTrips_irqEn (h : List Nat) (a : Bool) : (recordTrips h a s).irqEn = s.irqEn := rfl
@[simp] theorem recordTrips_tickCnt (h : List Nat) (a : Bool) : (recordTrips h a s).tickCnt = s.tickCnt := rfl
@[simp] theorem recordTrips_arg0 (h : List Nat) (a : Bool) : (recordTrips h a s).arg0 = s.arg0 := rfl
@[simp] theorem recordTrips_arg1 (h : List Nat) (a : Bool) : (recordTrips h a s).arg1 = s.arg1 := rfl
@[simp] theorem recordTrips_arg2 (h : List Nat) (a : Bool) : (recordTrips h a s).arg2 = s.arg2 := rfl
@[simp] theorem recordTrips_result (h : List Nat) (a : Bool) : (recordTrips h a s).result = s.result := rfl
@[simp] theorem recordTrips_resultHi (h : List Nat) (a : Bool) : (recordTrips h a s).resultHi = s.resultHi := rfl
@[simp] theorem recordTrips_ch (h : List Nat) (a : Bool) : (recordTrips h a s).ch = s.ch := rfl
@[simp] theorem recordTrips_prot (h : List Nat) (a : Bool) : (recordTrips h a s).prot = { s.prot with trip := s.prot.trip ||| bitsOf h, tripAgg := s.prot.tripAgg || a } := rfl
@[simp] theorem recordTrips_ctrl (h : List Nat) (a : Bool) : (recordTrips h a s).ctrl = s.ctrl := rfl
@[simp] theorem recordTrips_gd (h : List Nat) (a : Bool) : (recordTrips h a s).gd = s.gd := rfl
@[simp] theorem recordTrips_comp (h : List Nat) (a : Bool) : (recordTrips h a s).comp = s.comp := rfl

/-! ### `countTick` -/

@[simp] theorem countTick_params : (countTick s).params = s.params := rfl
@[simp] theorem countTick_inputs : (countTick s).inputs = s.inputs := rfl
@[simp] theorem countTick_ports : (countTick s).ports = s.ports := rfl
@[simp] theorem countTick_resp : (countTick s).resp = s.resp := rfl
@[simp] theorem countTick_status : (countTick s).status = s.status := rfl
@[simp] theorem countTick_events : (countTick s).events = s.events := rfl
@[simp] theorem countTick_irqEn : (countTick s).irqEn = s.irqEn := rfl
@[simp] theorem countTick_tickCnt : (countTick s).tickCnt = s.tickCnt + 1#32 := rfl
@[simp] theorem countTick_arg0 : (countTick s).arg0 = s.arg0 := rfl
@[simp] theorem countTick_arg1 : (countTick s).arg1 = s.arg1 := rfl
@[simp] theorem countTick_arg2 : (countTick s).arg2 = s.arg2 := rfl
@[simp] theorem countTick_result : (countTick s).result = s.result := rfl
@[simp] theorem countTick_resultHi : (countTick s).resultHi = s.resultHi := rfl
@[simp] theorem countTick_ch : (countTick s).ch = s.ch := rfl
@[simp] theorem countTick_prot : (countTick s).prot = s.prot := rfl
@[simp] theorem countTick_ctrl : (countTick s).ctrl = s.ctrl := rfl
@[simp] theorem countTick_gd : (countTick s).gd = s.gd := rfl
@[simp] theorem countTick_comp : (countTick s).comp = s.comp := rfl

end Sys2Proof.Machine
end

