-- ==== Sys2Proof/Laws/Ops.lean ====
section
/-!
SUPPORT. The shared operations: what each can do, said once. A proof cites these instead of unfolding the operation.
-/

namespace Sys2Proof.Machine

/-! ### Completion -/

/-- A command always completes, with the state the operation leaves or with the error recorded. -/
theorem complete_eq_next (s : State) (r : Except Err State) : complete s r = .next (settle s r) := rfl

@[simp] theorem settle_ok (s t : State) : settle s (.ok t) = t := rfl

@[simp] theorem settle_error (s : State) (e : Err) : settle s (.error e) = recordError e s := rfl

/-- If a command answers a next state, that state is the settled operation. -/
theorem complete_next_inv {s t : State} {r : Except Err State} (h : complete s r = .next t) : t = settle s r := by
  cases h
  rfl

/-- An operation that settles either succeeded or recorded one error and did nothing else. -/
theorem settle_cases (s : State) (r : Except Err State) :
    (∃ t, r = .ok t ∧ settle s r = t) ∨ ∃ e, r = .error e ∧ settle s r = recordError e s := by
  cases r with
  | ok t => exact .inl ⟨t, rfl, rfl⟩
  | error e => exact .inr ⟨e, rfl, rfl⟩

/-! ### Channels -/

theorem chan_setChan_same (s : State) (c : Nat) (x : Channel) (h : c < s.ch.length) : (s.setChan c x).chan c = x := by
  simp [State.chan, h]

theorem chan_setChan_ne (s : State) (c d : Nat) (x : Channel) (h : c ≠ d) : (s.setChan c x).chan d = s.chan d := by
  simp [State.chan, List.getElem?_set_ne h]

/-- A channel is an entry of `ch`, or the reset channel where no such entry exists. -/
theorem chan_cases (s : State) (c : Nat) : s.chan c ∈ s.ch ∨ s.chan c = Channel.reset := by
  by_cases h : c < s.ch.length
  · left
    simp [State.chan, h]
  · right
    simp [State.chan, List.getElem?_eq_none (Nat.le_of_not_lt h)]

/-- A property of every channel survives replacing one by a channel that has it. -/
theorem forall_setChan {P : Channel → Prop} {s : State} {c : Nat} {x : Channel} (h : ∀ y ∈ s.ch, P y) (hx : P x) :
    ∀ y ∈ (s.setChan c x).ch, P y := by
  intro y hy
  rcases List.mem_or_eq_of_mem_set hy with hy | rfl
  · exact h y hy
  · exact hx

/-! ### Index checks -/

/-- A channel command: the index exists and the channel's effect happens, or `BAD_INDEX`. -/
theorem withChannel_cases (c : Nat) (s : State) (f : Channel → State) :
    (c < s.params.nCh ∧ withChannel c s f = .ok (f (s.chan c))) ∨
      (s.params.nCh ≤ c ∧ withChannel c s f = .error .badIndex) := by
  unfold withChannel
  split
  · exact .inl ⟨‹_›, rfl⟩
  · exact .inr ⟨Nat.le_of_not_lt ‹_›, rfl⟩

/-- An output command: the index exists, or `BAD_INDEX`. -/
theorem withOutput_cases (o : Nat) (s t : State) :
    (o < s.params.nOut ∧ withOutput o s t = .ok t) ∨ (s.params.nOut ≤ o ∧ withOutput o s t = .error .badIndex) := by
  unfold withOutput
  split
  · exact .inl ⟨‹_›, rfl⟩
  · exact .inr ⟨Nat.le_of_not_lt ‹_›, rfl⟩

/-! ### Steps -/

/-- What a step can be: nothing to do, or the first queued agent step, presented. -/
theorem nextWork_cases (s : State) :
    (s.inputs = [] ∧ nextWork s = .done s) ∨
      ∃ st rest, s.inputs = st :: rest ∧ nextWork s = act st.action (present st rest s) := by
  unfold nextWork
  split
  · exact .inl ⟨‹_›, rfl⟩
  · exact .inr ⟨_, _, ‹_›, rfl⟩

theorem step_of_done {s t : State} (h : nextWork s = .done t) : step s = .next t := by
  simp [step, h]

theorem step_of_command {s t : State} {i : Instr} (h : nextWork s = .command i t) : step s = exec i t := by
  simp [step, h]

end Sys2Proof.Machine
end

