-- ==== Sys2Proof/Laws/Arith.lean ====
section
/-!
SUPPORT. The end of a primitive: its result and its flags, read from the result's own bits (44_arith.md R240).
-/

namespace Sys2Proof.Machine

theorem sext_eq_zero_iff (r : Word) : sext r = 0 ↔ r = 0#32 := by
  constructor
  · intro h
    apply BitVec.eq_of_toInt_eq
    simpa [sext] using h
  · rintro rfl
    rfl

theorem msb_eq_sext_neg (r : Word) : r.msb = decide (sext r < 0) := BitVec.msb_eq_toInt

/-- `RESULT` and the flags of a result that fits 32 bits: Z and N are read from `RESULT` itself. -/
theorem arithResult_eq (s : State) (r : Int) (v : Bool) (h1 : -2147483648 ≤ r) (h2 : r ≤ 2147483647) :
    arithResult r v s = { s with
      result := BitVec.ofInt 32 r
      status := { s.status with
        z := decide (BitVec.ofInt 32 r = 0#32), n := (BitVec.ofInt 32 r).msb, v := v } } := by
  have e := sext_ofInt32 r h1 h2
  have hz : decide (r = 0) = decide (BitVec.ofInt 32 r = 0#32) := by
    rw [decide_eq_decide, ← sext_eq_zero_iff, e]
  have hn : decide (r < 0) = (BitVec.ofInt 32 r).msb := by rw [msb_eq_sext_neg, e]
  simp only [arithResult, setFlags, withResult, hz, hn]

end Sys2Proof.Machine
end

