-- ==== Sys2Proof/Laws/Control.lean ====
section
/-!
SUPPORT. The control family's shared operations: what a compensator step, a stepper call and the tick's control phase can
do (43_control.md R202, R223, R230).
-/

namespace Sys2Proof.Machine

theorem lenBad_iff (p : Params) (n : BitVec 4) : lenBad p n = true ↔ n.toNat < 1 ∨ p.coefMax < n.toNat := by
  simp [lenBad]

theorem length_pushHist {w : Nat} (p : Params) (v : BitVec w) (h : List (BitVec w)) (e : h.length = p.coefMax) :
    (pushHist p v h).length = p.coefMax := by
  simp [pushHist, e]

/-- What a compensator step can do (R202): one of its two errors, lengths before `DEN[0]`, or the step. -/
theorem compStep_cases (x : Int) (s : State) :
    ((lenBad s.params s.comp.numLen = true ∨ lenBad s.params s.comp.denLen = true) ∧
        compStep x s = .error .badConfig) ∨
      (lenBad s.params s.comp.numLen = false ∧ lenBad s.params s.comp.denLen = false ∧ den0 s = 0 ∧
        compStep x s = .error .divZero) ∨
      (lenBad s.params s.comp.numLen = false ∧ lenBad s.params s.comp.denLen = false ∧ den0 s ≠ 0 ∧
        compStep x s = .ok (setDuty (compOut x s)
          { s with comp := { s.comp with
              xh := pushHist s.params (BitVec.ofInt 16 x) s.comp.xh
              yh := pushHist s.params (BitVec.ofInt 32 (compOut x s)) s.comp.yh } })) := by
  unfold compStep
  cases lenBad s.params s.comp.numLen <;> cases lenBad s.params s.comp.denLen <;> simp
  by_cases h : den0 s = 0 <;> simp [h]

/-- What a stepper call can do (R223): settle, accumulate, or complete the window and move `DUTY` by the sign of the mean. -/
theorem gdStep_cases (e : Int) (s : State) :
    (s.gd.force = false ∧ s.gd.setCnt.toNat < s.gd.settle.toNat ∧
        gdStep e s = { s with gd := { s.gd with setCnt := BitVec.ofNat 16 (s.gd.setCnt.toNat + 1) } }) ∨
      (s.gd.force = false ∧ s.gd.settle.toNat ≤ s.gd.setCnt.toNat ∧ s.gd.avgCnt.toNat + 1 < s.gd.avg.toNat ∧
        gdStep e s = { s with gd := { s.gd with
          acc := BitVec.ofInt 32 (sext s.gd.acc + e), avgCnt := BitVec.ofNat 16 (s.gd.avgCnt.toNat + 1) } }) ∨
      ((s.gd.force = true ∨ (s.gd.settle.toNat ≤ s.gd.setCnt.toNat ∧ s.gd.avg.toNat ≤ s.gd.avgCnt.toNat + 1)) ∧
        ∃ t, t = { s with gd := { s.gd with setCnt := 0#16, avgCnt := 0#16, acc := 0#32, force := false } } ∧
          ((tdiv (sext s.gd.acc + e) (s.gd.avgCnt.toNat + 1 : Nat) > 0 ∧
              gdStep e s = setDuty (sext s.ctrl.duty + s.scale) t) ∨
            (tdiv (sext s.gd.acc + e) (s.gd.avgCnt.toNat + 1 : Nat) < 0 ∧
              gdStep e s = setDuty (sext s.ctrl.duty - s.scale) t) ∨
            (tdiv (sext s.gd.acc + e) (s.gd.avgCnt.toNat + 1 : Nat) = 0 ∧ gdStep e s = t))) := by
  unfold gdStep
  simp only []
  split
  · rename_i h
    simp only [Bool.and_eq_true, Bool.not_eq_true', decide_eq_true_eq] at h
    exact .inl ⟨h.1, h.2, rfl⟩
  · rename_i h
    right
    split
    · rename_i h'
      simp only [Bool.and_eq_true, Bool.not_eq_true', decide_eq_true_eq, not_and, not_lt] at h h'
      exact .inl ⟨h'.1, h h'.1, h'.2, rfl⟩
    · rename_i h'
      simp only [Bool.and_eq_true, Bool.not_eq_true', decide_eq_true_eq, not_and, not_lt] at h h'
      refine .inr ⟨?_, _, rfl, ?_⟩
      · cases hf : s.gd.force with
        | true => exact .inl rfl
        | false => exact .inr ⟨h hf, h' hf⟩
      · split
        · exact .inl ⟨‹_›, rfl⟩
        · split
          · exact .inr (.inl ⟨‹_›, rfl⟩)
          · exact .inr (.inr ⟨by omega, rfl⟩)

/-- A stepper call writes only the stepper and `DUTY`. -/
theorem gdStep_eq (e : Int) (s : State) :
    gdStep e s = { s with gd := (gdStep e s).gd, ctrl := { s.ctrl with duty := (gdStep e s).ctrl.duty } } := by
  rcases gdStep_cases e s with ⟨-, -, h⟩ | ⟨-, -, -, h⟩ | ⟨-, t, rfl, ⟨-, h⟩ | ⟨-, h⟩ | ⟨-, h⟩⟩ <;> rw [h] <;> rfl

/-- The reference of a tick writes only `VREF_EFF`. -/
theorem tickReference_eq (s : State) :
    tickReference s = { s with ctrl := { s.ctrl with vrefEff := (tickReference s).ctrl.vrefEff } } := by
  unfold tickReference
  split <;> rfl

/-- `DUTY` after `setDuty` is the clamped value, for the scales that exist. -/
theorem sext_setDuty (v : Int) (s : State) (h : s.params.Legal) :
    sext (setDuty v s).ctrl.duty = clamp v s.scale (99 * s.scale) := by
  obtain ⟨-, -, -, -, ⟨h1, h2⟩, -⟩ := h
  have e : s.scale = (s.params.dutyScale : Int) := rfl
  have b := clamp_bounds v s.scale (99 * s.scale) (by omega)
  exact sext_ofInt32 _ (by omega) (by omega)

/-- What the control phase of a tick can do: nothing, its error recorded, or its effect (R230, 41_sensor.md R150). -/
theorem controlTick_cases (s : State) :
    ((s.ctrl.mode = .off ∨ s.prot.latched = true) ∧ controlTick s = s) ∨
      (s.ctrl.mode = .comp ∧ s.prot.latched = false ∧
        controlTick s = settle s (compStep (controlError (tickReference s)) (tickReference s))) ∨
      (s.ctrl.mode = .gd ∧ s.prot.latched = false ∧
        controlTick s = gdStep (controlError (tickReference s)) (tickReference s)) := by
  unfold controlTick controlPhase
  cases s.ctrl.mode <;> cases s.prot.latched <;> simp

end Sys2Proof.Machine
end

