-- ==== Sys2Proof/Laws/Decode.lean ====
section
/-!
SUPPORT. The fields of a command word laid out by `commandWord` (30_encoding.md R110), as numbers.
-/

namespace Sys2Proof

/-! ### The assembler's ranges (R117) -/

@[simp] theorem indexOk_iff (c : Nat) : indexOk c = true ↔ c ≤ 255 := by simp [indexOk]

@[simp] theorem immOk_iff (v : Int) : immOk v = true ↔ -32768 ≤ v ∧ v ≤ 32767 := by simp [immOk]

@[simp] theorem reasonOk_iff (r : Nat) : reasonOk r = true ↔ r ≤ 255 := by simp [reasonOk]

@[simp] theorem shiftOk_iff (k : Nat) : shiftOk k = true ↔ k ≤ 63 := by simp [shiftOk]

@[simp] theorem widthOk_iff (n : Nat) : widthOk n = true ↔ 1 ≤ n ∧ n ≤ 32 := by simp [widthOk]

/-! ### The fields of a word -/

/-- A word read as a number: `OP·2^24 + IDX·2^16 + IMM`. -/
theorem toNat_commandWord (op idx : Nat) (imm : Half) :
    (commandWord op idx imm).toNat = op % 256 * 2 ^ 24 + idx % 256 * 2 ^ 16 + imm.toNat := by
  have h1 := (BitVec.ofNat 8 idx).isLt
  have h2 := imm.isLt
  have e : (commandWord op idx imm).toNat = (BitVec.ofNat 8 op ++ BitVec.ofNat 8 idx ++ imm).toNat := rfl
  rw [e, BitVec.toNat_append, BitVec.toNat_append, ← Nat.shiftLeft_add_eq_or_of_lt h1,
    ← Nat.shiftLeft_add_eq_or_of_lt h2, Nat.shiftLeft_eq, Nat.shiftLeft_eq]
  simp only [BitVec.toNat_ofNat]
  omega

theorem toNat_opField (w : Word) : (opField w).toNat = w.toNat / 2 ^ 24 := by
  have := w.isLt
  simp only [opField, BitVec.extractLsb'_toNat, Nat.shiftRight_eq_div_pow]
  omega

theorem toNat_idxField (w : Word) : (idxField w).toNat = w.toNat / 2 ^ 16 % 256 := by
  simp only [idxField, BitVec.extractLsb'_toNat, Nat.shiftRight_eq_div_pow]

theorem toNat_immField (w : Word) : (immField w).toNat = w.toNat % 65536 := by
  simp [immField, BitVec.extractLsb'_toNat]

@[simp] theorem opField_commandWord (op idx : Nat) (imm : Half) :
    opField (commandWord op idx imm) = BitVec.ofNat 8 op := by
  apply BitVec.eq_of_toNat_eq
  have := imm.isLt
  rw [toNat_opField, toNat_commandWord, BitVec.toNat_ofNat]
  omega

@[simp] theorem idxField_commandWord (op idx : Nat) (imm : Half) :
    idxField (commandWord op idx imm) = BitVec.ofNat 8 idx := by
  apply BitVec.eq_of_toNat_eq
  have := imm.isLt
  rw [toNat_idxField, toNat_commandWord, BitVec.toNat_ofNat]
  omega

@[simp] theorem immField_commandWord (op idx : Nat) (imm : Half) : immField (commandWord op idx imm) = imm := by
  apply BitVec.eq_of_toNat_eq
  have := imm.isLt
  rw [toNat_immField, toNat_commandWord]
  omega

/-- A command word bit by bit. -/
theorem getLsbD_commandWord (op idx : Nat) (imm : Half) (j : Nat) :
    (commandWord op idx imm).getLsbD j =
      if j < 16 then imm.getLsbD j
      else if j < 24 then (BitVec.ofNat 8 idx).getLsbD (j - 16)
      else (BitVec.ofNat 8 op).getLsbD (j - 24) := by
  have e : (commandWord op idx imm).getLsbD j = (BitVec.ofNat 8 op ++ BitVec.ofNat 8 idx ++ imm).getLsbD j := rfl
  rw [e, BitVec.getLsbD_append, BitVec.getLsbD_append]
  by_cases h : j < 16
  · simp [h]
  · by_cases h' : j < 24
    · have : j - 16 < 8 := by omega
      simp [h, h', this]
    · have : ¬j - 16 < 8 := by omega
      have e2 : j - 16 - 8 = j - 24 := by omega
      simp only [h, h', this, e2, if_false]

/-- Every word is the command word of its own fields. -/
theorem commandWord_fields (w : Word) : commandWord (opField w).toNat (idxField w).toNat (immField w) = w := by
  apply BitVec.eq_of_toNat_eq
  have := w.isLt
  rw [toNat_commandWord, toNat_opField, toNat_idxField, toNat_immField]
  omega

/-- The low bits of a word, below its `IMM`'s width, are those of its `IMM`. -/
theorem toNat_extract_low (w : Word) (n : Nat) (h : n ≤ 16) :
    (w.extractLsb' 0 n).toNat = (immField w).toNat % 2 ^ n := by
  rw [toNat_immField]
  simp only [BitVec.extractLsb'_toNat, Nat.shiftRight_zero]
  have : (65536 : Nat) = 2 ^ n * 2 ^ (16 - n) := by
    rw [← Nat.pow_add]
    norm_num [Nat.add_sub_cancel' h]
  rw [this, Nat.mod_mul_right_mod]

/-- The level bit of a word is that of its `IMM`. -/
theorem level_eq (w : Word) : levelOperand w = (immField w).getLsbD 0 := by
  simp [levelOperand, immField]

end Sys2Proof
end

