-- ==== Sys2Proof/Laws/PerInstr.lean ====
section
/-!
SUPPORT. Statements made per command. `OpcodeByte`: the assembler writes the command's opcode of R116 into `OP`, and it is a
defined one, so the word is that command and no other (30_encoding.md R115).
-/

namespace Sys2Proof.Laws

/-- R115: the word's `OP` is the command's opcode, which is one of the 23 of R116. -/
def OpcodeByte.Statement (i : Instr) : Prop := (opField (encode i)).toNat = i.opcode ∧ i.opcode ∈ definedOpcodes

/-- The opcode of a command is a byte, so `OP` holds it whole. -/
theorem opcode_byte (i : Instr) (k : Nat) (hk : i.opcode = k) (h : k < 256 ∧ k ∈ definedOpcodes) :
    OpcodeByte.Statement i := by
  refine ⟨?_, hk ▸ h.2⟩
  rw [encode, opField_commandWord, BitVec.toNat_ofNat, hk]
  exact Nat.mod_eq_of_lt h.1

theorem OpcodeByte.nop : OpcodeByte.Statement .nop :=
  opcode_byte _ 0x00 rfl (by decide)

theorem OpcodeByte.supd (c : Nat) (x : Int) : OpcodeByte.Statement (.supd c x) :=
  opcode_byte _ 0x01 rfl (by decide)

theorem OpcodeByte.sget (c : Nat) : OpcodeByte.Statement (.sget c) :=
  opcode_byte _ 0x02 rfl (by decide)

theorem OpcodeByte.sclr (c : Nat) : OpcodeByte.Statement (.sclr c) :=
  opcode_byte _ 0x03 rfl (by decide)

theorem OpcodeByte.tick : OpcodeByte.Statement .tick :=
  opcode_byte _ 0x04 rfl (by decide)

theorem OpcodeByte.pchk : OpcodeByte.Statement .pchk :=
  opcode_byte _ 0x10 rfl (by decide)

theorem OpcodeByte.pren : OpcodeByte.Statement .pren :=
  opcode_byte _ 0x11 rfl (by decide)

theorem OpcodeByte.pshd (r : Nat) : OpcodeByte.Statement (.pshd r) :=
  opcode_byte _ 0x12 rfl (by decide)

theorem OpcodeByte.oset (o : Nat) (b : Bool) : OpcodeByte.Statement (.oset o b) :=
  opcode_byte _ 0x13 rfl (by decide)

theorem OpcodeByte.cstep (x : Int) : OpcodeByte.Statement (.cstep x) :=
  opcode_byte _ 0x20 rfl (by decide)

theorem OpcodeByte.crst : OpcodeByte.Statement .crst :=
  opcode_byte _ 0x21 rfl (by decide)

theorem OpcodeByte.gstep (e : Int) : OpcodeByte.Statement (.gstep e) :=
  opcode_byte _ 0x22 rfl (by decide)

theorem OpcodeByte.gfrc : OpcodeByte.Statement .gfrc :=
  opcode_byte _ 0x23 rfl (by decide)

theorem OpcodeByte.droop (i : Int) : OpcodeByte.Statement (.droop i) :=
  opcode_byte _ 0x24 rfl (by decide)

theorem OpcodeByte.add : OpcodeByte.Statement .add :=
  opcode_byte _ 0x30 rfl (by decide)

theorem OpcodeByte.sub : OpcodeByte.Statement .sub :=
  opcode_byte _ 0x31 rfl (by decide)

theorem OpcodeByte.adds : OpcodeByte.Statement .adds :=
  opcode_byte _ 0x32 rfl (by decide)

theorem OpcodeByte.subs : OpcodeByte.Statement .subs :=
  opcode_byte _ 0x33 rfl (by decide)

theorem OpcodeByte.mul : OpcodeByte.Statement .mul :=
  opcode_byte _ 0x34 rfl (by decide)

theorem OpcodeByte.mulsc (k : Nat) : OpcodeByte.Statement (.mulsc k) :=
  opcode_byte _ 0x35 rfl (by decide)

theorem OpcodeByte.sat (n : Nat) : OpcodeByte.Statement (.sat n) :=
  opcode_byte _ 0x36 rfl (by decide)

theorem OpcodeByte.clamp : OpcodeByte.Statement .clamp :=
  opcode_byte _ 0x37 rfl (by decide)

theorem OpcodeByte.divt : OpcodeByte.Statement .divt :=
  opcode_byte _ 0x38 rfl (by decide)

end Sys2Proof.Laws
end

