-- ==== Sys2Proof/Laws/Protection.lean ====
section
/-!
SUPPORT. The interlock's shared operations: which channels breach, and what an evaluation can do (42_protection.md R173,
R174, R178).
-/

namespace Sys2Proof.Machine

/-- The breach predicate, mode by mode (R172). -/
theorem breach_iff (x : Channel) :
    breach x = true ↔
      (x.cfg.cmp = .above ∧ sext x.avg > sext x.limit) ∨
        (x.cfg.cmp = .band ∧ (sext x.avg > sext x.limit ∨ sext x.avg < -sext x.limit)) ∨
        (x.cfg.cmp = .below ∧ sext x.avg < sext x.limit) := by
  unfold breach
  cases x.cfg.cmp <;> simp

/-- `H` holds exactly the existing channels that breach (R178). -/
theorem mem_breaching (s : State) (c : Nat) : c ∈ breaching s ↔ c < s.params.nCh ∧ breach (s.chan c) = true := by
  simp [breaching]

/-- The aggregate sum, channel by channel (R175). -/
theorem aggSum_eq (s : State) :
    aggSum s = ∑ c ∈ Finset.range s.params.nCh, if s.prot.aggMask.getLsbD c then sext (s.chan c).avg else 0 := by
  unfold aggSum
  induction s.params.nCh with
  | zero => rfl
  | succ n ih =>
    rw [List.range_succ, List.filter_append, List.map_append, List.sum_append, ih, Finset.sum_range_succ]
    congr 1
    cases h : s.prot.aggMask.getLsbD n <;> simp [h]

/-- The aggregate breach: a selected channel exists and the sum is strictly above the limit (R175). -/
theorem aggBreach_iff (s : State) :
    aggBreach s = true ↔ s.prot.aggMask ≠ 0#16 ∧ sext s.prot.aggLimit < aggSum s := by
  simp [aggBreach]

/-- An evaluation finds a breach exactly when a channel or the aggregate does. -/
theorem anyBreach_iff (s : State) :
    anyBreach (breaching s) (aggBreach s) = true ↔
      (∃ c, c < s.params.nCh ∧ breach (s.chan c) = true) ∨ aggBreach s = true := by
  have h : breaching s ≠ [] ↔ ∃ c, c < s.params.nCh ∧ breach (s.chan c) = true := by
    simp only [← mem_breaching, List.ne_nil_iff_exists_cons]
    constructor
    · rintro ⟨b, l, e⟩
      exact ⟨b, by simp [e]⟩
    · rintro ⟨c, hc⟩
      exact List.exists_cons_of_ne_nil (List.ne_nil_of_mem hc)
  rw [← h]
  simp [anyBreach]

/-- OVERCURRENT is the reason exactly for an aggregate breach or a breach of a current channel (R173). -/
theorem latchReason_eq (s : State) :
    latchReason (breaching s) (aggBreach s) s =
      if aggBreach s = true ∨ ∃ c, c < s.params.nCh ∧ breach (s.chan c) = true ∧ (s.chan c).cfg.cls = .current
      then 2#8 else 3#8 := by
  unfold latchReason
  congr 1
  simp [mem_breaching, and_assoc]

/-- What an evaluation can do: nothing while Latched, else the effect of the policy. -/
theorem protEval_cases (s : State) :
    (s.prot.latched = true ∧ protEval s = s) ∨
      (s.prot.latched = false ∧ s.prot.policy = .latching ∧
        protEval s = latchEffect (breaching s) (aggBreach s) s) ∨
      (s.prot.latched = false ∧ s.prot.policy = .tripping ∧
        protEval s = tripEffect (breaching s) (aggBreach s) s) := by
  cases hl : s.prot.latched with
  | true => exact .inl ⟨rfl, by simp [protEval, hl]⟩
  | false =>
    right
    cases hp : s.prot.policy with
    | latching => exact .inl ⟨rfl, rfl, by simp [protEval, hl, hp]⟩
    | tripping => exact .inr ⟨rfl, rfl, by simp [protEval, hl, hp]⟩

/-- An evaluation writes only the interlock and the events. -/
theorem protCheck_eq (s : State) :
    protCheck s = { s with prot := (protCheck s).prot, events := (protCheck s).events } := by
  unfold protCheck
  split
  · rcases protEval_cases s with ⟨-, h⟩ | ⟨-, -, h⟩ | ⟨-, -, h⟩ <;> rw [h]
    · unfold latchEffect
      simp only []
      split <;> rfl
    · unfold tripEffect
      simp only []
      split <;> rfl
  · rfl

/-- A hardware shutdown writes only the interlock and the events. -/
theorem hwShutdown_eq (s : State) :
    hwShutdown s = { s with prot := (hwShutdown s).prot, events := (hwShutdown s).events } := by
  unfold hwShutdown
  split <;> rfl

/-- The two outcomes of a hardware shutdown (R177). -/
theorem hwShutdown_cases (s : State) :
    (s.ports.shdn = true ∧ s.prot.latched = false ∧ hwShutdown s = enterLatch 0#8 s) ∨
      ((s.ports.shdn = false ∨ s.prot.latched = true) ∧ hwShutdown s = s) := by
  unfold hwShutdown
  cases h1 : s.ports.shdn <;> cases h2 : s.prot.latched <;> simp

end Sys2Proof.Machine
end

