-- ==== Sys2Proof/Laws/Sensor.lean ====
section
/-!
SUPPORT. The sensor's shared operations: the slots of a window, the range of a window sum and of its average, and what
`chanUpdate` and `clearChannel` do to each field (41_sensor.md R142, R145).
-/

namespace Sys2Proof.Machine

/-! ### Slots and windows -/

theorem slot_of_lt (x : Channel) (k : Nat) (h : k < 32) : x.slot k = x.buf[k] := by
  simp [Channel.slot, h]

theorem slot_of_ge (x : Channel) (k : Nat) (h : 32 ≤ k) : x.slot k = 0#16 := by
  simp [Channel.slot, h]

theorem window_le (x : Channel) : x.window ≤ 32 := by
  unfold Channel.window
  have := x.cfg.winLog2.isLt
  generalize x.cfg.winLog2.val = n at *
  interval_cases n <;> decide

theorem window_pos (x : Channel) : 0 < x.window := by
  unfold Channel.window
  positivity

/-! ### Sums of samples -/

/-- A sum of samples is bounded by their number. -/
theorem sum_sext_bounds (l : List Half) :
    -(32768 * (l.length : Int)) ≤ (l.map sext).sum ∧ (l.map sext).sum ≤ 32767 * l.length := by
  induction l with
  | nil => simp
  | cons a l ih =>
    have := sext16_bounds a
    simp only [List.map_cons, List.sum_cons, List.length_cons]
    push_cast
    omega

/-- Replacing one sample changes the sum by the difference. -/
theorem sum_sext_set (l : List Half) (k : Nat) (h : k < l.length) (v : Half) :
    ((l.set k v).map sext).sum = (l.map sext).sum - sext l[k] + sext v := by
  induction l generalizing k with
  | nil => simp at h
  | cons a l ih =>
    cases k with
    | zero =>
      simp
      ring
    | succ k =>
      simp only [List.length_cons, Nat.add_lt_add_iff_right] at h
      simp only [List.set_cons_succ, List.map_cons, List.sum_cons, ih k h, List.getElem_cons_succ]
      ring

/-- A truncated mean of `w` values stays in their range. -/
theorem tdiv_window_bounds (a : Int) (w : Nat) (hw : 0 < w) (h1 : -(32768 * (w : Int)) ≤ a) (h2 : a ≤ 32768 * w) :
    -32768 ≤ tdiv a w ∧ tdiv a w ≤ 32768 := by
  have hw' : (0 : Int) < w := by exact_mod_cast hw
  unfold tdiv
  rcases Int.le_total 0 a with ha | ha
  · rw [Int.tdiv_eq_ediv_of_nonneg ha]
    have h3 := Int.ediv_nonneg ha hw'.le
    exact ⟨by omega, Int.ediv_le_of_le_mul hw' h2⟩
  · have e : Int.tdiv a w = -((-a) / w) := by
      rw [← Int.tdiv_eq_ediv_of_nonneg (by omega), Int.neg_tdiv, neg_neg]
    rw [e]
    have h3 : (-a) / (w : Int) ≤ 32768 := Int.ediv_le_of_le_mul hw' (by omega)
    have h4 : 0 ≤ (-a) / (w : Int) := Int.ediv_nonneg (by omega) hw'.le
    omega

/-! ### The update -/

/-- A stored sample fits 16 bits (R142). -/
theorem storedSample_bounds (p : Params) (x : Channel) (v : Int) (h1 : -32768 ≤ v) (h2 : v ≤ 32767) :
    -32768 ≤ storedSample p x v ∧ storedSample p x v ≤ 32767 := by
  unfold storedSample
  split
  · exact sat16_bounds _
  · exact ⟨h1, h2⟩

@[simp] theorem chanUpdate_cfg (p : Params) (v : Int) (x : Channel) : (chanUpdate p v x).cfg = x.cfg := rfl
@[simp] theorem chanUpdate_limit (p : Params) (v : Int) (x : Channel) : (chanUpdate p v x).limit = x.limit := rfl
@[simp] theorem chanUpdate_window (p : Params) (v : Int) (x : Channel) : (chanUpdate p v x).window = x.window := rfl

/-- Only the slot at the cursor changes. -/
theorem chanUpdate_slot (p : Params) (v : Int) (x : Channel) (k : Nat) :
    (chanUpdate p v x).slot k =
      if k = x.cur.toNat then BitVec.ofInt 16 (storedSample p x v) else x.slot k := by
  have hc := x.cur.isLt
  by_cases h : k < 32
  · rw [slot_of_lt _ _ h, slot_of_lt _ _ h]
    simp only [chanUpdate, Vector.getElem_set]
    by_cases e : x.cur.toNat = k
    · simp [e]
    · have : ¬k = x.cur.toNat := fun h => e h.symm
      simp [e, this]
  · have : k ≠ x.cur.toNat := by omega
    simp [this, slot_of_ge _ _ (Nat.le_of_not_lt h)]

/-- The cursor stays below the window. -/
theorem chanUpdate_cur (p : Params) (v : Int) (x : Channel) :
    (chanUpdate p v x).cur.toNat = (x.cur.toNat + 1) % x.window := by
  have h1 := window_le x
  have h2 : (x.cur.toNat + 1) % x.window < x.window := Nat.mod_lt _ (window_pos x)
  simp only [chanUpdate, BitVec.toNat_ofNat]
  omega

/-! ### The clear -/

@[simp] theorem clearChannel_cfg (x : Channel) : (clearChannel x).cfg = x.cfg := rfl
@[simp] theorem clearChannel_limit (x : Channel) : (clearChannel x).limit = x.limit := rfl
@[simp] theorem clearChannel_acc (x : Channel) : (clearChannel x).acc = 0#32 := rfl
@[simp] theorem clearChannel_cur (x : Channel) : (clearChannel x).cur = 0#5 := rfl
@[simp] theorem clearChannel_avg (x : Channel) : (clearChannel x).avg = 0#32 := rfl

@[simp] theorem clearChannel_slot (x : Channel) (k : Nat) : (clearChannel x).slot k = 0#16 := by
  by_cases h : k < 32
  · simp [slot_of_lt _ _ h, clearChannel]
  · exact slot_of_ge _ _ (Nat.le_of_not_lt h)

end Sys2Proof.Machine
end

