-- ==== Sys2Proof/Laws/Step.lean ====
section
/-!
SUPPORT. What one step of PCK can be (10_state.md R20), and which fields a register write leaves alone.
-/

namespace Sys2Proof.Machine

/-- The agent steps, one by one: a step that answers `t` is one of these, and says what `t` is. -/
theorem step_cases {s t : State} (h : step s = .next t) :
    (s.inputs = [] ∧ t = s) ∨
      ∃ st rest, s.inputs = st :: rest ∧
        ((∃ a, st.action = .busRead a ∧ t = busRead a (present st rest s)) ∨
          (∃ a v, st.action = .busWrite a v ∧ a ≠ cmdAddr ∧ t = busWrite a v (present st rest s)) ∨
          (∃ v i, st.action = .busWrite cmdAddr v ∧ decode v = .ok i ∧
            exec i (respond (.write false) (present st rest s)) = .next t) ∨
          (∃ v e, st.action = .busWrite cmdAddr v ∧ decode v = .error e ∧
            t = recordError .illegalOp (respond (.write false) (present st rest s))) ∨
          (st.action = .tick ∧ t = tickStep (present st rest s)) ∨
          (st.action = .reset ∧ t = resetStep (present st rest s))) := by
  rcases nextWork_cases s with ⟨hi, hw⟩ | ⟨st, rest, hi, hw⟩
  · rw [step_of_done hw] at h
    cases h
    exact .inl ⟨hi, rfl⟩
  · refine .inr ⟨st, rest, hi, ?_⟩
    cases ha : st.action with
    | busRead a =>
      rw [ha] at hw
      rw [step_of_done hw] at h
      cases h
      exact .inl ⟨a, rfl, rfl⟩
    | busWrite a v =>
      by_cases e : a = cmdAddr
      · subst e
        cases hd : decode v with
        | ok i =>
          simp only [ha, act, if_true, writeCmd, hd] at hw
          rw [step_of_command hw] at h
          exact .inr (.inr (.inl ⟨v, i, rfl, hd, h⟩))
        | error d =>
          simp only [ha, act, if_true, writeCmd, hd] at hw
          rw [step_of_done hw] at h
          cases h
          exact .inr (.inr (.inr (.inl ⟨v, d, rfl, hd, rfl⟩)))
      · simp only [ha, act, if_neg e] at hw
        rw [step_of_done hw] at h
        cases h
        exact .inr (.inl ⟨a, v, rfl, e, rfl⟩)
    | tick =>
      rw [ha] at hw
      rw [step_of_done hw] at h
      cases h
      exact .inr (.inr (.inr (.inr (.inl ⟨rfl, rfl⟩))))
    | reset =>
      rw [ha] at hw
      rw [step_of_done hw] at h
      cases h
      exact .inr (.inr (.inr (.inr (.inr ⟨rfl, rfl⟩))))

/-! ### What a register write leaves alone -/

@[simp] theorem writeReg_params (r : Reg) (v : Word) (s : State) : (writeReg r v s).params = s.params := by cases r <;> rfl
@[simp] theorem writeReg_inputs (r : Reg) (v : Word) (s : State) : (writeReg r v s).inputs = s.inputs := by cases r <;> rfl
@[simp] theorem writeReg_ports (r : Reg) (v : Word) (s : State) : (writeReg r v s).ports = s.ports := by cases r <;> rfl
@[simp] theorem writeReg_resp (r : Reg) (v : Word) (s : State) : (writeReg r v s).resp = s.resp := by cases r <;> rfl
@[simp] theorem writeReg_tickCnt (r : Reg) (v : Word) (s : State) : (writeReg r v s).tickCnt = s.tickCnt := by
  cases r <;> rfl
@[simp] theorem writeReg_result (r : Reg) (v : Word) (s : State) : (writeReg r v s).result = s.result := by cases r <;> rfl
@[simp] theorem writeReg_resultHi (r : Reg) (v : Word) (s : State) : (writeReg r v s).resultHi = s.resultHi := by
  cases r <;> rfl
@[simp] theorem writeReg_z (r : Reg) (v : Word) (s : State) : (writeReg r v s).status.z = s.status.z := by cases r <;> rfl
@[simp] theorem writeReg_n (r : Reg) (v : Word) (s : State) : (writeReg r v s).status.n = s.status.n := by cases r <;> rfl
@[simp] theorem writeReg_v (r : Reg) (v : Word) (s : State) : (writeReg r v s).status.v = s.status.v := by cases r <;> rfl
@[simp] theorem writeReg_latched (r : Reg) (v : Word) (s : State) : (writeReg r v s).prot.latched = s.prot.latched := by
  cases r <;> rfl
@[simp] theorem writeReg_reason (r : Reg) (v : Word) (s : State) : (writeReg r v s).prot.reason = s.prot.reason := by
  cases r <;> rfl

/-! ### A bus transfer -/

/-- A `BusRead` answers a register's value, or the bus error. -/
theorem busRead_cases (a : Addr) (s : State) :
    (∃ r, regAt s.params a = some r ∧ busRead a s = respond (.read (readReg r s) false) s) ∨
      (regAt s.params a = none ∧ busRead a s = respond (.read 0#32 true) (recordError .busError s)) := by
  unfold busRead
  cases h : regAt s.params a with
  | some r => exact .inl ⟨r, rfl, rfl⟩
  | none => exact .inr ⟨rfl, rfl⟩

/-- A `BusWrite` outside `CMD` writes a register, or is the bus error. -/
theorem busWrite_cases (a : Addr) (v : Word) (s : State) :
    (∃ r, regAt s.params a = some r ∧ busWrite a v s = respond (.write false) (writeReg r v s)) ∨
      (regAt s.params a = none ∧ busWrite a v s = respond (.write true) (recordError .busError s)) := by
  unfold busWrite
  cases h : regAt s.params a with
  | some r => exact .inl ⟨r, rfl, rfl⟩
  | none => exact .inr ⟨rfl, rfl⟩

end Sys2Proof.Machine
end

