-- ==== Sys2Proof/Laws/Tick.lean ====
section
/-!
SUPPORT. The phases of the tick sequence: what each leaves alone, and what the refresh does to each channel (41_sensor.md
R150).
-/

namespace Sys2Proof.Machine

/-- A refreshed channel, in a state that differs only in its channels. -/
theorem refreshChannel_eq (s : State) (c : Nat) : refreshChannel s c = { s with ch := (refreshChannel s c).ch } := by
  unfold refreshChannel
  simp only []
  split <;> rfl

/-- Refreshing channels writes only channels. -/
theorem foldl_refreshChannel_eq (cs : List Nat) (s : State) :
    cs.foldl refreshChannel s = { s with ch := (cs.foldl refreshChannel s).ch } := by
  induction cs generalizing s with
  | nil => rfl
  | cons c cs ih =>
    rw [List.foldl_cons, ih, refreshChannel_eq s c]

/-- Tick phase 2 writes only channels. -/
theorem refreshAll_eq (s : State) : refreshAll s = { s with ch := (refreshAll s).ch } := foldl_refreshChannel_eq _ s

theorem length_refreshChannel (s : State) (c : Nat) : (refreshChannel s c).ch.length = s.ch.length := by
  unfold refreshChannel
  simp only []
  split
  · simp [State.setChan]
  · rfl

theorem length_foldl_refreshChannel (cs : List Nat) (s : State) :
    (cs.foldl refreshChannel s).ch.length = s.ch.length := by
  induction cs generalizing s with
  | nil => rfl
  | cons c cs ih => rw [List.foldl_cons, ih, length_refreshChannel]

@[simp] theorem length_refreshAll (s : State) : (refreshAll s).ch.length = s.ch.length :=
  length_foldl_refreshChannel _ s

/-- One channel after a refresh. -/
def refreshed (s : State) (c : Nat) (x : Channel) : Channel :=
  if x.cfg.en then chanUpdate s.params (s.sample c) x else x

theorem chan_refreshChannel (s : State) (c d : Nat) (h : c < s.ch.length) :
    (refreshChannel s c).chan d = if d = c then refreshed s c (s.chan c) else s.chan d := by
  unfold refreshChannel refreshed
  simp only []
  by_cases e : d = c
  · subst e
    split <;> simp [chan_setChan_same, h]
  · rw [if_neg e]
    split
    · exact chan_setChan_ne _ _ _ _ (Ne.symm e)
    · rfl

/-- Tick phase 2, one channel: updated from its own sample when enabled, once. -/
theorem chan_foldl_refreshChannel (cs : List Nat) (hn : cs.Nodup) (s : State) (h : ∀ c ∈ cs, c < s.ch.length) (d : Nat) :
    (cs.foldl refreshChannel s).chan d = if d ∈ cs then refreshed s d (s.chan d) else s.chan d := by
  induction cs generalizing s with
  | nil => simp
  | cons c cs ih =>
    have hc := h c (by simp)
    rw [List.foldl_cons, ih hn.of_cons _ (fun b hb => by
      rw [length_refreshChannel]
      exact h b (by simp [hb])), chan_refreshChannel s c d hc]
    have e : ∀ x, refreshed (refreshChannel s c) d x = refreshed s d x := by
      intro x
      rw [refreshChannel_eq]
      rfl
    rw [e]
    by_cases hd : d = c
    · subst hd
      simp [(List.nodup_cons.mp hn).1]
    · simp [hd]

theorem chan_refreshAll (s : State) (h : s.ch.length = s.params.nCh) (c : Nat) (hc : c < s.params.nCh) :
    (refreshAll s).chan c = refreshed s c (s.chan c) := by
  rw [refreshAll, chan_foldl_refreshChannel _ List.nodup_range s (by simp [h])]
  simp [hc]

/-- The control phase writes only the control registers, the stepper, the histories, and an error's status and event. -/
theorem controlTick_eq (s : State) :
    controlTick s = { s with
      status := { s.status with err := (controlTick s).status.err, lastErr := (controlTick s).status.lastErr }
      events := (controlTick s).events
      ctrl := { s.ctrl with duty := (controlTick s).ctrl.duty, vrefEff := (controlTick s).ctrl.vrefEff }
      gd := (controlTick s).gd
      comp := { s.comp with xh := (controlTick s).comp.xh, yh := (controlTick s).comp.yh } } := by
  rcases controlTick_cases s with ⟨-, h⟩ | ⟨-, -, h⟩ | ⟨-, -, h⟩ <;> rw [h]
  · rcases compStep_cases (controlError (tickReference s)) (tickReference s) with
      ⟨-, h⟩ | ⟨-, -, -, h⟩ | ⟨-, -, -, h⟩ <;> rw [h]
    · rfl
    · rfl
    · rw [tickReference_eq]
      rfl
  · rw [gdStep_eq, tickReference_eq]

end Sys2Proof.Machine
end

