-- ==== Sys2Proof/Machine/Assembler.lean ====
section
/-!
DEFINITION. Host programs (spec 30_encoding.md rules R117 to R119): the lines of a PCK program, what the pseudo-instructions
expand to, the agent steps a line stands for, and the text an assembler reads and writes. A program is not machine code:
it is a sequence of host and tick steps, so it reaches the machine as the queue `inputs`.
-/

namespace Sys2Proof.Machine

/-- The pseudo-instructions of R119, with their operands as written. -/
inductive Pseudo where
  | li (n : Fin 3) (v : Int)
  | clrerr
  | clrev
  | setduty (v : Int)
  | chcfg (c en w ofs cmp cls : Nat)
  | chlim (c : Nat) (v : Int)
  | shutdown
  | outon (o : Nat)
  | outoff (o : Nat)
  | getavg (c : Nat)
  | mulq15
deriving DecidableEq, Repr

/-- The basic lines of a program (R117, R118). -/
inductive HostLine where
  /-- A command: shorthand for `WR 0x00C, <its word>`. -/
  | command (i : Instr)
  /-- `WR a, v`. -/
  | wr (a : Nat) (v : Int)
  /-- `RD a`, or `RD a => v`, which also states the value read. -/
  | rd (a : Nat) (expect : Option Int)
  /-- `EXT TICK [s0, …], shdn=b`. -/
  | extTick (samples : List Int) (shdn : Bool)
deriving DecidableEq, Repr

/-- The expansions of R119, to exactly these lines. -/
def Pseudo.expand : Pseudo → List HostLine
  | .li n v => [.wr (0x020 + 4 * n.val) v]
  | .clrerr => [.wr 0x010 0x1F]
  | .clrev => [.wr 0x014 0x7]
  | .setduty v => [.wr 0x064 v]
  | .chcfg c en w ofs cmp cls =>
    [.wr (0x200 + 0x20 * c) ((en ||| Nat.log2 w <<< 1 ||| ofs <<< 4 ||| cmp <<< 5 ||| cls <<< 7 : Nat) : Int)]
  | .chlim c v => [.wr (0x204 + 0x20 * c) v]
  | .shutdown => [.command (.pshd 1)]
  | .outon o => [.command (.oset o true)]
  | .outoff o => [.command (.oset o false)]
  | .getavg c => [.command (.sget c), .rd 0x02C none]
  | .mulq15 => [.command (.mulsc 15)]

/-- A negative `v` stands for its 32-bit two's-complement word (R118). -/
def wordOfInt (v : Int) : Word := BitVec.ofInt 32 v

/-- A negative `sc` stands for its 16-bit two's-complement sample (R118). -/
def sampleOfInt (v : Int) : Half := BitVec.ofInt 16 v

/-- The agent step of a line (R118). `p` is what the ports happen to show while a host line runs. An ill-formed command
is refused (R117), and so is an offset outside the 13-bit space (20_memory.md R80). -/
def HostLine.stimulus (p : Ports) : HostLine → Option Stimulus
  | .command i => (assemble i).map fun w => { ports := p, action := .busWrite cmdAddr w }
  | .wr a v => if a < 0x2000 then some { ports := p, action := .busWrite (BitVec.ofNat 13 a) (wordOfInt v) } else none
  | .rd a _ => if a < 0x2000 then some { ports := p, action := .busRead (BitVec.ofNat 13 a) } else none
  | .extTick samples shdn =>
    some { ports := { sample := samples.map sampleOfInt, shdn := shdn }, action := .tick }

/-! ### Assembler text (R117, R118) -/

/-- The mnemonic of a command (R116). -/
def mnemonicOf : Instr → String
  | .nop => "NOP"
  | .supd _ _ => "SUPD"
  | .sget _ => "SGET"
  | .sclr _ => "SCLR"
  | .tick => "TICK"
  | .pchk => "PCHK"
  | .pren => "PREN"
  | .pshd _ => "PSHD"
  | .oset _ _ => "OSET"
  | .cstep _ => "CSTEP"
  | .crst => "CRST"
  | .gstep _ => "GSTEP"
  | .gfrc => "GFRC"
  | .droop _ => "DROOP"
  | .add => "ADD"
  | .sub => "SUB"
  | .adds => "ADDS"
  | .subs => "SUBS"
  | .mul => "MUL"
  | .mulsc _ => "MULSC"
  | .sat _ => "SAT"
  | .clamp => "CLAMP"
  | .divt => "DIVT"

/-- The operands of a command as R117 writes them: indices bare, immediates after `#`, commas between. -/
def operandText : Instr → String
  | .supd c x => " " ++ toString c ++ ", #" ++ toString x
  | .sget c => " " ++ toString c
  | .sclr c => " " ++ toString c
  | .pshd r => " #" ++ toString r
  | .oset o b => " " ++ toString o ++ ", #" ++ (if b then "1" else "0")
  | .cstep x => " #" ++ toString x
  | .gstep e => " #" ++ toString e
  | .droop i => " #" ++ toString i
  | .mulsc k => " #" ++ toString k
  | .sat n => " #" ++ toString n
  | .nop | .tick | .pchk | .pren | .crst | .gfrc => ""
  | .add | .sub | .adds | .subs | .mul | .clamp | .divt => ""

/-- The statement of a command (R117). -/
def commandText (i : Instr) : String := mnemonicOf i ++ operandText i

/-- `;` starts a comment: a line keeps only the text before it (R117, R118). -/
def stripComment (cs : List Char) : List Char := cs.takeWhile (· ≠ ';')

/-- A character that stands as a token by itself. -/
def isPunct (c : Char) : Bool := [',', '#', '[', ']', '=', '>'].contains c

/-- The token read so far, put before the tokens after it. -/
def flushToken (cur : List Char) (rest : List String) : List String :=
  if cur.isEmpty then rest else String.ofList cur.reverse :: rest

/-- A line's tokens: punctuation, and runs of other characters between blanks. -/
def tokens (cur : List Char) : List Char → List String
  | [] => flushToken cur []
  | c :: cs =>
    if c = ' ' || c = '\t' then flushToken cur (tokens [] cs)
    else if isPunct c then flushToken cur (String.singleton c :: tokens [] cs)
    else tokens (c :: cur) cs

/-- The digits of R117's numbers, each standing at its value. -/
def digitChars : List Char := "0123456789ABCDEF".toList

/-- The value of a digit: its place among `digitChars`. Either case of a letter is read (log entry 13). -/
def digit (c : Char) : Option Nat := digitChars.idxOf? c.toUpper

/-- A nonempty run of digits in a base. -/
def digits (base : Nat) (cs : List Char) : Option Nat :=
  if cs.isEmpty then none
  else cs.foldlM (fun n c => (digit c).bind fun d => if d < base then some (n * base + d) else none) 0

/-- An unsigned number, decimal or hexadecimal with a `0x` prefix. R117 gives immediates both bases and does not say in
which base a bare index is written: reading an index in either is a DESIGN CHOICE (log entry 13). -/
def natToken (t : String) : Option Nat :=
  match t.toList with
  | '0' :: 'x' :: cs => digits 16 cs
  | cs => digits 10 cs

/-- A number that may be negative (R117, R118). The rules show a minus sign before a decimal number; reading one before a
hexadecimal number too, as in `-0x5`, is a DESIGN CHOICE (log entry 13). -/
def intToken (t : String) : Option Int :=
  match t.toList with
  | '-' :: cs => (natToken (String.ofList cs)).map fun n => -(n : Int)
  | _ => (natToken t).map fun n => (n : Int)

/-- A level token: 0 or 1, written without a sign (log entry 13). -/
def levelToken (t : String) : Option Bool :=
  match natToken t with
  | some 0 => some false
  | some 1 => some true
  | _ => none

/-- The samples of an `EXT TICK` line up to the closing bracket, and the tokens after it. -/
def sampleTokens : List String → Option (List Int × List String)
  | [] => none
  | t :: ts =>
    if t = "]" then some ([], ts)
    else if t = "," then sampleTokens ts
    else do
      let v ← intToken t
      let (vs, rest) ← sampleTokens ts
      return (v :: vs, rest)

/-- The windows a `CHCFG` may name (R119). -/
def windowOk (w : Nat) : Bool := [1, 2, 4, 8, 16, 32].contains w

/-- A `CHCFG` whose operands fit their fields. -/
def chcfgPseudo (c en w ofs cmp cls : Nat) : Option Pseudo :=
  if windowOk w && decide (en ≤ 1) && decide (ofs ≤ 1) && decide (cmp ≤ 3) && decide (cls ≤ 1) then
    some (.chcfg c en w ofs cmp cls)
  else none

/-- The pseudo-instruction a line of tokens is (R119). -/
def parsePseudo : List String → Option Pseudo
  | ["LI", "ARG0", ",", v] => (intToken v).map (Pseudo.li 0)
  | ["LI", "ARG1", ",", v] => (intToken v).map (Pseudo.li 1)
  | ["LI", "ARG2", ",", v] => (intToken v).map (Pseudo.li 2)
  | ["CLRERR"] => some .clrerr
  | ["CLREV"] => some .clrev
  | ["SETDUTY", v] => (intToken v).map Pseudo.setduty
  | ["CHCFG", c, ",", en, ",", w, ",", ofs, ",", cmp, ",", cls] => do
    chcfgPseudo (← natToken c) (← natToken en) (← natToken w) (← natToken ofs) (← natToken cmp) (← natToken cls)
  | ["CHLIM", c, ",", v] => do return .chlim (← natToken c) (← intToken v)
  | ["SHUTDOWN"] => some .shutdown
  | ["OUTON", o] => (natToken o).map Pseudo.outon
  | ["OUTOFF", o] => (natToken o).map Pseudo.outoff
  | ["GETAVG", c] => (natToken c).map Pseudo.getavg
  | ["MULQ15"] => some .mulq15
  | _ => none

/-- The command a line of tokens is (R117). Ranges are `Instr.wf`'s affair. R117 ties its optional minus sign to no form:
reading one only in forms I and CI, and the immediates of R, OB, K and W unsigned, so that `PSHD #-0` and `MULSC #-0` are
refused, is a DESIGN CHOICE (log entry 13). -/
def parseInstr : List String → Option Instr
  | ["NOP"] => some .nop
  | ["SUPD", c, ",", "#", x] => do return .supd (← natToken c) (← intToken x)
  | ["SGET", c] => (natToken c).map Instr.sget
  | ["SCLR", c] => (natToken c).map Instr.sclr
  | ["TICK"] => some .tick
  | ["PCHK"] => some .pchk
  | ["PREN"] => some .pren
  | ["PSHD", "#", r] => (natToken r).map Instr.pshd
  | ["OSET", o, ",", "#", b] => do return .oset (← natToken o) (← levelToken b)
  | ["CSTEP", "#", x] => (intToken x).map Instr.cstep
  | ["CRST"] => some .crst
  | ["GSTEP", "#", e] => (intToken e).map Instr.gstep
  | ["GFRC"] => some .gfrc
  | ["DROOP", "#", i] => (intToken i).map Instr.droop
  | ["ADD"] => some .add
  | ["SUB"] => some .sub
  | ["ADDS"] => some .adds
  | ["SUBS"] => some .subs
  | ["MUL"] => some .mul
  | ["MULSC", "#", k] => (natToken k).map Instr.mulsc
  | ["SAT", "#", n] => (natToken n).map Instr.sat
  | ["CLAMP"] => some .clamp
  | ["DIVT"] => some .divt
  | _ => none

/-- The host or environment line a line of tokens is (R118). -/
def parseHost : List String → Option HostLine
  | ["WR", a, ",", v] => do return .wr (← natToken a) (← intToken v)
  | ["RD", a] => (natToken a).map fun n => .rd n none
  | ["RD", a, "=", ">", v] => do return .rd (← natToken a) (some (← intToken v))
  | "EXT" :: "TICK" :: "[" :: ts =>
    match sampleTokens ts with
    | some (vs, []) => some (.extTick vs false)
    | some (vs, [",", "shdn", "=", b]) => (levelToken b).map (HostLine.extTick vs)
    | _ => none
  | _ => none

/-- A line of tokens, of any of the kinds. -/
def parseTokens (ts : List String) : Option (List HostLine) :=
  match ts with
  | [] => some []
  | _ =>
    match parseHost ts with
    | some l => some [l]
    | none =>
      match parsePseudo ts with
      | some p => some p.expand
      | none => (parseInstr ts).map fun i => [.command i]

/-- The basic lines one line of program text stands for (R117 to R119); `none` where an assembler refuses it. -/
def parseLine (text : String) : Option (List HostLine) := parseTokens (tokens [] (stripComment text.toList))

end Sys2Proof.Machine
end

