-- ==== Sys2Proof/Tests/Slice0.lean ====
section
/-!
SUPPORT. Tests of the model: command words written out from 30_encoding.md R110, R111 and R116, one or two steps per
command with results from 95_test_vectors.md, and for each statement with hypotheses a state and operands that meet them.
-/

namespace Sys2Proof.Tests

open Sys2Proof.Machine

/-! ### Helpers -/

/-- The state a meaning leaves; the test's own state if it did not answer one. -/
def after (s : State) (r : Host.Outcome State Fault Refusal) : State :=
  match r with
  | .next t => t
  | .fault _ => s
  | .refused _ => s

/-- The reset state with two operand registers. -/
def args (x y : Word) : State := { State.reset with arg0 := x, arg1 := y }

/-- The reset state with one agent step to come. -/
def one (a : Action) : State := { State.reset with inputs := [{ ports := State.reset.ports, action := a }] }

/-- A channel's configuration, as `CHCFG` gives it (R119). -/
def cfg (en : Bool) (w : Fin 6) (ofs : Bool) (cmp : Cmp) (cls : ChClass) : ChCfg :=
  { en := en, winLog2 := w, ofs := ofs, cmp := cmp, cls := cls }

/-- The reset state with channel `c` configured, limited and holding one average. -/
def withChan (c : Nat) (k : ChCfg) (limit avg : Word) (s : State) : State :=
  s.setChan c { Channel.reset with cfg := k, limit := limit, avg := avg }

/-- `STATUS`'s flags, as bits V, N, Z. -/
def flags (s : State) : List Bool := [s.status.v, s.status.n, s.status.z]

/-- The compensator of V-C1: velocity-form PI, with `DUTY` and the output history at 50. -/
def pi : State :=
  { State.reset with
    ctrl := { State.reset.ctrl with duty := 50#32 }
    comp := { State.reset.comp with
      numLen := 2#4, denLen := 2#4
      num := 3#16 :: 0xFFFE#16 :: List.replicate 6 0#16
      den := 4#16 :: 0xFFFC#16 :: List.replicate 6 0#16
      yh := List.replicate 8 50#32 } }

/-- The reset state with stepper fields and a duty. -/
def stepper (g : Gd) (duty : Word) : State :=
  { State.reset with gd := g, ctrl := { State.reset.ctrl with duty := duty } }

/-- The third call of V-G2, about to complete its window of two samples. -/
def lastCall : State :=
  stepper { Gd.reset with settle := 1#16, avg := 2#16, setCnt := 1#16, avgCnt := 1#16, acc := 0xFFFFFFFC#32 } 50#32

/-- The interlock latched with a reason. -/
def latchedState (r : BitVec 8) : State :=
  { State.reset with prot := { State.reset.prot with latched := true, reason := r } }

/-! ### Decoding: one word per command, its fields from R110 and R111, its opcode from R116 -/

theorem test_decode_nop : decode (0b00000000#8 ++ 0b00000000#8 ++ 0b0000000000000000#16) = .ok .nop := by decide

theorem test_decode_supd :
    decode (0b00000001#8 ++ 0b00000000#8 ++ 0b1111111111111011#16) = .ok (.supd 0 (-5)) := by decide

theorem test_decode_sget : decode (0b00000010#8 ++ 0b00000011#8 ++ 0b0000000000000000#16) = .ok (.sget 3) := by decide

theorem test_decode_sclr : decode (0b00000011#8 ++ 0b00001000#8 ++ 0b0000000000000000#16) = .ok (.sclr 8) := by decide

theorem test_decode_tick : decode (0b00000100#8 ++ 0b00000000#8 ++ 0b0000000000000000#16) = .ok .tick := by decide

theorem test_decode_pchk : decode (0b00010000#8 ++ 0b00000000#8 ++ 0b0000000000000000#16) = .ok .pchk := by decide

theorem test_decode_pren : decode (0b00010001#8 ++ 0b00000000#8 ++ 0b0000000000000000#16) = .ok .pren := by decide

theorem test_decode_pshd :
    decode (0b00010010#8 ++ 0b00000000#8 ++ 0b0000000011001000#16) = .ok (.pshd 200) := by decide

theorem test_decode_oset :
    decode (0b00010011#8 ++ 0b00000011#8 ++ 0b0000000000000001#16) = .ok (.oset 3 true) := by decide

theorem test_decode_cstep :
    decode (0b00100000#8 ++ 0b00000000#8 ++ 0b1111111111111101#16) = .ok (.cstep (-3)) := by decide

theorem test_decode_crst : decode (0b00100001#8 ++ 0b00000000#8 ++ 0b0000000000000000#16) = .ok .crst := by decide

theorem test_decode_gstep :
    decode (0b00100010#8 ++ 0b00000000#8 ++ 0b1111111111111100#16) = .ok (.gstep (-4)) := by decide

theorem test_decode_gfrc : decode (0b00100011#8 ++ 0b00000000#8 ++ 0b0000000000000000#16) = .ok .gfrc := by decide

theorem test_decode_droop :
    decode (0b00100100#8 ++ 0b00000000#8 ++ 0b0000000001100100#16) = .ok (.droop 100) := by decide

theorem test_decode_add : decode (0b00110000#8 ++ 0b00000000#8 ++ 0b0000000000000000#16) = .ok .add := by decide

theorem test_decode_sub : decode (0b00110001#8 ++ 0b00000000#8 ++ 0b0000000000000000#16) = .ok .sub := by decide

theorem test_decode_adds : decode (0b00110010#8 ++ 0b00000000#8 ++ 0b0000000000000000#16) = .ok .adds := by decide

theorem test_decode_subs : decode (0b00110011#8 ++ 0b00000000#8 ++ 0b0000000000000000#16) = .ok .subs := by decide

theorem test_decode_mul : decode (0b00110100#8 ++ 0b00000000#8 ++ 0b0000000000000000#16) = .ok .mul := by decide

theorem test_decode_mulsc :
    decode (0b00110101#8 ++ 0b00000000#8 ++ 0b0000000000111111#16) = .ok (.mulsc 63) := by decide

theorem test_decode_sat : decode (0b00110110#8 ++ 0b00000000#8 ++ 0b0000000000011111#16) = .ok (.sat 32) := by decide

theorem test_decode_clamp : decode (0b00110111#8 ++ 0b00000000#8 ++ 0b0000000000000000#16) = .ok .clamp := by decide

theorem test_decode_divt : decode (0b00111000#8 ++ 0b00000000#8 ++ 0b0000000000000000#16) = .ok .divt := by decide

/-- V-P5, R111: bits a form does not use are ignored. -/
theorem test_decode_ignores_junk : decode 0x12001F03#32 = .ok (.pshd 3) ∧ decode 0x3000FFFF#32 = .ok .add := by decide

/-- R113. -/
theorem test_decode_undefined :
    decode 0x05000000#32 = .error (.undefinedOpcode 5) ∧
      decode 0xFF000000#32 = .error (.undefinedOpcode 255) := by decide

/-- The example column of R117. -/
theorem test_encode :
    [encode (.sget 3), encode (.supd 0 (-5)), encode (.oset 1 true), encode (.sat 8)] =
      [0x02030000#32, 0x0100FFFB#32, 0x13010001#32, 0x36000007#32] := by decide

theorem test_table_word : decodeTableWord 32 0x02030000 = some (.sget 3) := by decide

/-! ### WellFormed: an ill-formed command for each check (R117) -/

theorem test_wf_index : Instr.wf (.sget 256) = false := by decide

theorem test_wf_immediate_low : Instr.wf (.cstep (-32769)) = false := by decide

theorem test_wf_immediate_high : Instr.wf (.supd 0 32768) = false := by decide

theorem test_wf_reason : Instr.wf (.pshd 256) = false := by decide

theorem test_wf_shift : Instr.wf (.mulsc 64) = false := by decide

theorem test_wf_width_low : Instr.wf (.sat 0) = false := by decide

theorem test_wf_width_high : Instr.wf (.sat 33) = false := by decide

theorem test_assemble_refuses :
    assemble (.oset 256 true) = none ∧ assemble (.oset 255 true) = some 0x13FF0001#32 := by decide

/-! ### The assembler's text (R117, R119) -/

theorem test_parse_command : parseLine "SUPD 0, #-5" = some [.command (.supd 0 (-5))] := by decide

/-- R118: an offset and a value in hexadecimal, and a comment (95_test_vectors.md writes its lines so). -/
theorem test_parse_hexadecimal : parseLine "WR 0x2AF, 0xFFFFFFFB ; value" = some [.wr 0x2AF 0xFFFFFFFB] := by decide

/-! ### One step per command, with results from 95_test_vectors.md -/

/-- R260. -/
theorem test_nop : after State.reset (exec .nop State.reset) = State.reset := by decide

/-- V-S2: tdiv(-3, 2) = -1. -/
theorem test_supd_truncates :
    (after State.reset (exec (.supd 0 (-3)) (withChan 0 (cfg false 1 false .off .current) 0#32 0#32 State.reset))).result =
      0xFFFFFFFF#32 := by decide

/-- V-S3. -/
theorem test_supd_offset :
    (after State.reset (exec (.supd 0 1023) (withChan 0 (cfg false 0 true .off .current) 0#32 0#32 State.reset))).result =
      511#32 := by decide

/-- V-S1. -/
theorem test_sget :
    (after State.reset (exec (.sget 0) (withChan 0 ChCfg.reset 0#32 35#32 State.reset))).result = 35#32 := by decide

/-- V-S5. -/
theorem test_sget_index : statusWord (after State.reset (exec (.sget 255) State.reset)) = 0x202#32 := by decide

/-- V-S5. -/
theorem test_sclr :
    ((after State.reset (exec (.sclr 3) (withChan 3 ChCfg.reset 0#32 50#32 State.reset))).chan 3).avg =
      0#32 := by decide

/-- V-S5. -/
theorem test_sclr_index : statusWord (after State.reset (exec (.sclr 8) State.reset)) = 0x202#32 := by decide

/-- V-T1: e = sat_16(100000 - 0), no sample given. -/
theorem test_tick_control :
    (after State.reset (exec .tick { withChan 0 (cfg true 0 false .off .current) 0#32 0#32 State.reset with
      ctrl := { State.reset.ctrl with mode := .comp, vref := 100000#32 } })).comp.yh.head? =
      some 32767#32 := by decide

/-- V-S6: only an enabled channel is updated. -/
theorem test_tick_sensor :
    ((after State.reset (exec .tick { withChan 0 (cfg true 0 false .off .current) 0#32 0#32 State.reset with
      ports := { sample := [0xFFF8#16, 99#16], shdn := false } })).ch.map fun x => x.avg).take 2 =
      [0xFFFFFFF8#32, 0#32] := by decide

/-- V-P1: at the symmetric negative bound, no trip. -/
theorem test_pchk_at_limit :
    (after State.reset (exec .pchk (withChan 0 (cfg false 0 false .band .current) 100#32 0xFFFFFF9C#32 State.reset))).prot =
      State.reset.prot := by decide

/-- V-P2. -/
theorem test_pchk_below :
    readReg .protStat (after State.reset (exec .pchk
      (withChan 2 (cfg false 0 false .below .temperature) 300#32 299#32 State.reset))) = 0x301#32 := by decide

/-- V-P5. -/
theorem test_pren : readReg .protStat (after State.reset (exec .pren (latchedState 3#8))) = 0#32 := by decide

/-- V-P5. -/
theorem test_pshd_zero : readReg .protStat (after State.reset (exec (.pshd 0) State.reset)) = 0x101#32 := by decide

/-- V-P5. -/
theorem test_pshd_latched : after State.reset (exec (.pshd 9) (latchedState 3#8)) = latchedState 3#8 := by decide

/-- V-P7. -/
theorem test_oset : (after State.reset (exec (.oset 3 true) State.reset)).prot.outEn = 0x8#16 := by decide

/-- V-P7: N_OUT = 4. -/
theorem test_oset_index : statusWord (after State.reset (exec (.oset 4 true) State.reset)) = 0x202#32 := by decide

/-- V-C1. -/
theorem test_cstep :
    ((after State.reset (exec (.cstep 8) pi)).result, (after State.reset (exec (.cstep 8) pi)).comp.yh.take 2) =
      (56#32, [56#32, 50#32]) := by decide

/-- V-C5: BAD_CONFIG before DIV_ZERO. -/
theorem test_cstep_order :
    (after State.reset (exec (.cstep 5) { pi with comp := { pi.comp with
      numLen := 9#4, den := List.replicate 8 0#16 } })).status.lastErr =
      4#4 := by decide

/-- V-C1. -/
theorem test_crst :
    (after State.reset (exec .crst { pi with comp := { pi.comp with yh := List.replicate 8 0#32 } })).comp.yh =
      List.replicate 8 50#32 := by decide

/-- V-G2. -/
theorem test_gstep_moves : (after State.reset (exec (.gstep (-4)) lastCall)).result = 49#32 := by decide

/-- V-G4. -/
theorem test_gstep_clamped :
    (after State.reset (exec (.gstep 1) (stepper Gd.reset 99#32))).result = 99#32 := by decide

/-- R222. -/
theorem test_gfrc :
    readReg .gdCnt (after State.reset (exec .gfrc (stepper { Gd.reset with
      settle := 5#16, avgCnt := 2#16 } 50#32))) = 5#32 := by decide

/-- V-D1. -/
theorem test_droop :
    ((after State.reset (exec (.droop 100) { State.reset with ctrl := { State.reset.ctrl with
      vref := 1000#32, droopScale := 512#32 } })).ctrl.vrefEff) =
      950#32 := by decide

/-- V-D1. -/
theorem test_droop_truncates :
    (after State.reset (exec (.droop (-3)) { State.reset with ctrl := { State.reset.ctrl with
      droopScale := 512#32 } })).result =
      0xFFFFFFFF#32 := by decide

/-- V-A1. -/
theorem test_add_wraps :
    (after State.reset (exec .add (args 0x80000000#32 0x80000000#32))).result = 0#32 ∧
      flags (after State.reset (exec .add (args 0x80000000#32 0x80000000#32))) = [true, false, true] := by decide

/-- V-A1. -/
theorem test_add_negative :
    (after State.reset (exec .add (args 5#32 0xFFFFFFF9#32))).result = 0xFFFFFFFE#32 ∧
      flags (after State.reset (exec .add (args 5#32 0xFFFFFFF9#32))) = [false, true, false] := by decide

/-- V-A2. -/
theorem test_sub_wraps :
    (after State.reset (exec .sub (args 0#32 0x80000000#32))).result = 0x80000000#32 ∧
      flags (after State.reset (exec .sub (args 0#32 0x80000000#32))) = [true, true, false] := by decide

/-- V-A1. -/
theorem test_adds_saturates :
    (after State.reset (exec .adds (args 0x7FFFFFFF#32 1#32))).result = 0x7FFFFFFF#32 ∧
      flags (after State.reset (exec .adds (args 0x7FFFFFFF#32 1#32))) = [true, false, false] := by decide

/-- V-A2. -/
theorem test_subs_saturates :
    (after State.reset (exec .subs (args 0x80000000#32 1#32))).result = 0x80000000#32 ∧
      flags (after State.reset (exec .subs (args 0x80000000#32 1#32))) = [true, true, false] := by decide

/-- V-A3. -/
theorem test_mul_negative :
    (after State.reset (exec .mul (args 0xFFFFFFFE#32 3#32))).resultHi = 0xFFFFFFFF#32 ∧
      (after State.reset (exec .mul (args 0xFFFFFFFE#32 3#32))).result = 0xFFFFFFFA#32 ∧
      flags (after State.reset (exec .mul (args 0xFFFFFFFE#32 3#32))) = [false, true, false] := by decide

/-- V-A3: Z describes the whole product. -/
theorem test_mul_high :
    (after State.reset (exec .mul (args 0x80000000#32 0x80000000#32))).resultHi = 0x40000000#32 ∧
      (after State.reset (exec .mul (args 0x80000000#32 0x80000000#32))).result = 0#32 ∧
      flags (after State.reset (exec .mul (args 0x80000000#32 0x80000000#32))) = [false, false, false] := by decide

/-- V-A4. -/
theorem test_mulsc_truncates :
    (after State.reset (exec (.mulsc 1) (args 0xFFFFFFFD#32 1#32))).result = 0xFFFFFFFF#32 ∧
      flags (after State.reset (exec (.mulsc 1) (args 0xFFFFFFFD#32 1#32))) = [false, true, false] := by decide

/-- V-A4. -/
theorem test_mulsc_saturates :
    (after State.reset (exec (.mulsc 0) (args 0x10000#32 0x10000#32))).result = 0x7FFFFFFF#32 ∧
      flags (after State.reset (exec (.mulsc 0) (args 0x10000#32 0x10000#32))) = [true, false, false] := by decide

/-- V-A5: SAT #8 of -200. -/
theorem test_sat_low :
    (after State.reset (exec (.sat 8) (args 0xFFFFFF38#32 0#32))).result = 0xFFFFFF80#32 ∧
      flags (after State.reset (exec (.sat 8) (args 0xFFFFFF38#32 0#32))) = [true, true, false] := by decide

/-- V-A5. -/
theorem test_sat_one_bit :
    (after State.reset (exec (.sat 1) (args 5#32 0#32))).result = 0#32 ∧
      flags (after State.reset (exec (.sat 1) (args 5#32 0#32))) = [true, false, true] := by decide

/-- V-A6: low > high answers the high bound. -/
theorem test_clamp_crossed :
    (after State.reset (exec .clamp { args 50#32 10#32 with arg2 := 5#32 })).result = 5#32 := by decide

/-- V-A6. -/
theorem test_clamp_low :
    (after State.reset (exec .clamp { args 0#32 1#32 with arg2 := 99#32 })).result = 1#32 := by decide

/-- V-A7: -7 / 2. -/
theorem test_divt_truncates :
    (after State.reset (exec .divt (args 0xFFFFFFF9#32 2#32))).resultHi = 0xFFFFFFFF#32 ∧
      (after State.reset (exec .divt (args 0xFFFFFFF9#32 2#32))).result = 0xFFFFFFFD#32 ∧
      flags (after State.reset (exec .divt (args 0xFFFFFFF9#32 2#32))) = [false, true, false] := by decide

/-- V-A7. -/
theorem test_divt_saturates :
    (after State.reset (exec .divt (args 0x80000000#32 0xFFFFFFFF#32))).resultHi = 0#32 ∧
      (after State.reset (exec .divt (args 0x80000000#32 0xFFFFFFFF#32))).result = 0x7FFFFFFF#32 ∧
      flags (after State.reset (exec .divt (args 0x80000000#32 0xFFFFFFFF#32))) = [true, false, false] := by decide

/-! ### The bus, the queue and a placed command -/

/-- V-E1. -/
theorem test_write_undefined :
    statusWord (after State.reset (step (one (.busWrite cmdAddr 0x05000000#32)))) = 0x101#32 := by decide

/-- V-E1. -/
theorem test_read_misaligned :
    (after State.reset (step (one (.busRead 2#13)))).resp = .read 0#32 true ∧
      statusWord (after State.reset (step (one (.busRead 2#13)))) = 0x510#32 := by decide

/-- V-S4. -/
theorem test_write_ch_cfg :
    readReg (.chCfg 0) (after State.reset (step (one (.busWrite 0x200#13 0xFFFFFFFF#32)))) = 0xFB#32 := by decide

/-- R90: the step of the write executes the command. -/
theorem test_placed_command :
    step (State.reset.withFetchWord 32 0x10000000) = exec .pchk { State.reset with resp := .write false } := by rfl

/-- No agent is ready: nothing happens (log entry 2). -/
theorem test_idle : step State.reset = .next State.reset := by rfl

/-! ### Witnesses: the hypotheses of each statement, met together -/

/-- The reset state with one command word to come, at any state. -/
def queued (s : State) (w : Word) : State := { s with inputs := [{ ports := s.ports, action := .busWrite 0x00C#13 w }] }

/-- A state whose interlock latches by channel 7, at the boundary. -/
def breached (p : Policy) : State :=
  { withChan 7 (cfg false 0 false .above .current) 100#32 101#32 State.reset with
    prot := { State.reset.prot with policy := p, outEn := 0xF#16 } }

/-- The reset state under the tripping policy: nothing breaches. -/
def calm : State := { State.reset with prot := { State.reset.prot with policy := .tripping } }

/-- A state that only the aggregate breaches, at the boundary. -/
def aggregate (p : Policy) : State :=
  { withChan 0 (cfg false 0 false .off .current) 0#32 151#32 State.reset with
    prot := { State.reset.prot with policy := p, aggMask := 0x1#16, aggLimit := 150#32 } }

/-- Every error recorded, the event enabled, and a tick to come. -/
def allErrors : State :=
  { one .tick with
    status := { Status.reset with err := 0x1F#5, lastErr := 5#4 }
    events := 4#3
    irqEn := 4#3 }

/-- A build with one coefficient of each kind. -/
def oneCoef : Params := { Params.standard with coefMax := 1 }

/-- A channel in the state R46 describes, its window full of the smallest sample. -/
def full : Channel :=
  { cfg := cfg true 5 true .band .current, limit := 0xFFFFFFFF#32, acc := 0xFFF00000#32, cur := 31#5,
    avg := 0xFFFF8000#32, buf := Vector.replicate 32 0x8000#16 }

/-- One step from `s`, by agent action. -/
def acting (s : State) (a : Action) : State := { s with inputs := [{ ports := s.ports, action := a }] }

theorem witness_DecodeOfEncodeIsTheCommand :
    Instr.wf (.supd 255 (-32768)) = true ∧ Instr.wf (.droop 32767) = true ∧ Instr.wf (.pshd 255) = true ∧
      Instr.wf (.oset 255 true) = true ∧ Instr.wf (.mulsc 63) = true ∧ Instr.wf (.sat 1) = true ∧
      Instr.wf (.sat 32) = true := by decide

theorem witness_DecodedCommandReencodesAndIgnoresUnusedBits :
    decode 0x12001F03#32 = .ok (.pshd 3) ∧
      0x12FF0003#32 &&& (Instr.pshd 3).form.usedBits = 0x12001F03#32 &&& (Instr.pshd 3).form.usedBits := by decide

theorem witness_UndefinedOpcodesRaiseIllegalOp :
    (opField 0x38FFFFFF#32).toNat ∈ definedOpcodes ∧ (opField 0x39000000#32).toNat ∉ definedOpcodes ∧
      (queued State.reset 0x39000000#32).inputs =
        [{ ports := State.reset.ports, action := .busWrite 0x00C#13 0x39000000#32 }] := by decide

theorem witness_StepExecutesTheDecodedCommand :
    (queued State.reset 0x10000000#32).inputs =
      [{ ports := State.reset.ports, action := .busWrite 0x00C#13 0x10000000#32 }] ∧
      decode 0x10000000#32 = .ok .pchk := by decide

theorem witness_NopChangesNothing : opField 0x00FFFFFF#32 = 0x00#8 := by decide

theorem witness_SupdUpdatesTheChannelExactly :
    opField 0x01FFFFFF#32 = 0x01#8 ∧ State.reset.params.nCh ≤ 8 ∧ 7 < State.reset.params.nCh ∧
      ((State.reset.setChan 7 full).chan 7).Conserved ∧ -32768 ≤ (-32768 : Int) ∧ (-32768 : Int) ≤ 32767 := by decide

theorem witness_SgetReadsTheLastAverage :
    opField 0x02FFFFFF#32 = 0x02#8 ∧ State.reset.params.nCh ≤ 8 ∧ 7 < State.reset.params.nCh := by decide

theorem witness_SclrClearsTheChannel :
    opField 0x03FFFFFF#32 = 0x03#8 ∧ State.reset.params.nCh ≤ 8 ∧ 7 < State.reset.params.nCh := by decide

theorem witness_TickRunsTheTickSequence :
    opField 0x04FFFFFF#32 = 0x04#8 ∧ State.reset.ch.length = State.reset.params.nCh ∧
      ({ State.reset with ports := { sample := [], shdn := true } } : State).ports.shdn = true ∧
      State.reset.prot.latched = false ∧
      (latchedState 2#8).ch.length = (latchedState 2#8).params.nCh ∧
      (latchedState 2#8).prot.latched = true ∧
      (let u : State := { State.reset with prot := { State.reset.prot with en := false } };
        u.ch.length = u.params.nCh ∧ u.ports.shdn = false ∧ u.prot.en = false) := by decide

theorem witness_PchkLatchesUnderTheLatchingPolicy :
    opField 0x10FFFFFF#32 = 0x10#8 ∧ (latchedState 2#8).prot.latched = true ∧ State.reset.prot.en = true ∧
      State.reset.prot.latched = false ∧ State.reset.prot.policy = .latching ∧
      (∀ c, c < State.reset.params.nCh → breach (State.reset.chan c) = false) ∧ aggBreach State.reset = false ∧
      (breached .latching).prot.en = true ∧ breach ((breached .latching).chan 7) = true ∧
      aggBreach (aggregate .latching) = true := by decide

theorem witness_PrenClearsOnlyTheLatch :
    opField 0x11FFFFFF#32 = 0x11#8 ∧ State.reset.ArmedReasonZero ∧ State.reset.prot.latched = false := by decide

theorem witness_PshdLatchesWhenArmed :
    opField 0x12FFFFFF#32 = 0x12#8 ∧ (latchedState 2#8).prot.latched = true ∧ State.reset.prot.latched = false ∧
      255 ≤ 255 := by decide

theorem witness_OsetSwitchesOneOutput :
    opField 0x13FFFFFF#32 = 0x13#8 ∧ State.reset.params.nOut ≤ 4 ∧ 3 < State.reset.params.nOut ∧ 15 < 16 := by decide

theorem witness_CstepEvaluatesTheDifferenceEquation :
    opField 0x20FFFFFF#32 = 0x20#8 ∧ pi.params.Legal ∧ pi.Shaped ∧ 1 ≤ pi.comp.numLen.toNat ∧
      pi.comp.numLen.toNat ≤ pi.params.coefMax ∧ 1 ≤ pi.comp.denLen.toNat ∧ pi.comp.denLen.toNat ≤ pi.params.coefMax ∧
      pi.comp.den.getD 0 0#16 ≠ 0#16 ∧ -32768 ≤ (32767 : Int) ∧ (32767 : Int) ≤ 32767 := by decide

theorem witness_CrstSeedsTheHistories : opField 0x21FFFFFF#32 = 0x21#8 ∧ 7 < State.reset.params.coefMax := by decide

theorem witness_GstepSettlesAccumulatesOrMoves :
    opField 0x22FFFFFF#32 = 0x22#8 ∧ State.reset.params.Legal ∧ State.reset.DutyInRange ∧ State.reset.StepperBounded ∧
      -32768 ≤ (-32768 : Int) ∧ (-32768 : Int) ≤ 32767 := by decide

theorem witness_GfrcMakesTheNextCallDecide :
    opField 0x23FFFFFF#32 = 0x23#8 ∧ State.reset.params.Legal ∧ State.reset.DutyInRange ∧
      -32768 ≤ (-32768 : Int) ∧ (-32768 : Int) ≤ 32767 := by decide

theorem witness_DroopAppliesTheScaledTerm :
    opField 0x24FFFFFF#32 = 0x24#8 ∧ -32768 ≤ (-32768 : Int) ∧ (-32768 : Int) ≤ 32767 := by decide

theorem witness_AddWrapsWithOverflowFlag : opField 0x30FFFFFF#32 = 0x30#8 := by decide

theorem witness_SubWrapsWithOverflowFlag : opField 0x31FFFFFF#32 = 0x31#8 := by decide

theorem witness_AddsAndSubsSaturate :
    opField 0x32FFFFFF#32 = 0x32#8 ∧ opField 0x33FFFFFF#32 = 0x33#8 ∧ Instr.adds = .adds ∧
      (1 : Int) = (args 1#32 0#32).arg0.toInt + (args 1#32 0#32).arg1.toInt ∧
      Instr.subs = .subs ∧ (1 : Int) = (args 1#32 0#32).arg0.toInt - (args 1#32 0#32).arg1.toInt := by decide

theorem witness_MulGivesTheWholeProduct : opField 0x34FFFFFF#32 = 0x34#8 := by decide

theorem witness_MulscScalesTruncatesAndSaturates : opField 0x35FFFFFF#32 = 0x35#8 ∧ 63 ≤ 63 := by decide

theorem witness_SatSaturatesToTheWidth : opField 0x36FFFFFF#32 = 0x36#8 ∧ 1 ≤ 32 ∧ 32 ≤ 32 := by decide

theorem witness_ClampKeepsWithinTheBounds : opField 0x37FFFFFF#32 = 0x37#8 := by decide

theorem witness_DivtTruncatesTowardZero :
    opField 0x38FFFFFF#32 = 0x38#8 ∧ (args 1#32 0#32).arg1 = 0#32 ∧ (args 1#32 0xFFFFFFFF#32).arg1 ≠ 0#32 := by decide

theorem witness_GstepSettlesAccumulatesOrMoves_settling :
    let s := stepper { Gd.reset with settle := 1#16 } 1#32;
      s.params.Legal ∧ s.DutyInRange ∧ s.StepperBounded ∧ s.gd.force = false ∧
      s.gd.setCnt.toNat < s.gd.settle.toNat := by decide

theorem witness_GstepSettlesAccumulatesOrMoves_accumulating :
    let s := stepper { Gd.reset with avg := 0xFFFF#16, avgCnt := 0xFFFD#16, acc := 0x80018000#32 } 99#32;
      s.params.Legal ∧ s.DutyInRange ∧ s.StepperBounded ∧ s.gd.force = false ∧ s.gd.settle.toNat ≤ s.gd.setCnt.toNat ∧
        s.gd.avgCnt.toNat + 1 < s.gd.avg.toNat := by decide

theorem witness_GstepSettlesAccumulatesOrMoves_moving :
    let s := stepper { Gd.reset with avg := 0xFFFF#16, avgCnt := 0xFFFE#16, acc := 0x80010000#32 } 99#32;
      s.params.Legal ∧ s.DutyInRange ∧ s.StepperBounded ∧ s.gd.settle.toNat ≤ s.gd.setCnt.toNat ∧
        s.gd.avg.toNat ≤ s.gd.avgCnt.toNat + 1 := by decide

theorem witness_GstepSettlesAccumulatesOrMoves_forced :
    let s := stepper { Gd.reset with settle := 9#16, force := true } 99#32;
      s.params.Legal ∧ s.DutyInRange ∧ s.StepperBounded ∧ s.gd.force = true := by decide

theorem witness_SoftwareTickEqualsHardwareTick : decode 0x04ABCDEF#32 = .ok .tick := by decide

theorem witness_MovingAverageOfTheLastWindow :
    let xs : List Int := [-32768, 32767];
      let s : State := { withChan 7 (cfg true 5 true .off .current) 0#32 0#32 State.reset with
        inputs := xs.map fun x => { ports := State.reset.ports, action := .busWrite 0x00C#13 (encode (.supd 7 x)) } };
      7 < s.params.nCh ∧ 7 < s.ch.length ∧ 7 ≤ 255 ∧ xs ≠ [] ∧ (∀ x ∈ xs, -32768 ≤ x ∧ x ≤ 32767) ∧
        (s.chan 7).buf = Vector.replicate 32 0#16 ∧ (s.chan 7).acc = 0#32 ∧ (s.chan 7).cur = 0#5 ∧
        s.inputs = xs.map fun x => { ports := State.reset.ports, action := .busWrite 0x00C#13 (encode (.supd 7 x)) } := by decide

theorem witness_UpdateConservesTheWindowSum :
    full.Conserved ∧ -32768 ≤ (-32768 : Int) ∧ (-32768 : Int) ≤ 32767 ∧
      chanUpdate Params.standard (-32768) full = chanUpdate Params.standard (-32768) full := by decide

theorem witness_ComparatorBoundariesAreStrict :
    (cfg false 0 false .off .current).cmp = .off ∧ (cfg false 0 false .above .current).cmp = .above ∧
      (cfg false 0 false .below .current).cmp = .below ∧ full.cfg.cmp = .band ∧ full.limit.toInt < 0 ∧
      ({ full with limit := 0#32 } : Channel).cfg.cmp = .band ∧
      0 ≤ ({ full with limit := 0#32 } : Channel).limit.toInt ∧
      (let s := State.reset.setChan 7 full; s.params.Legal ∧ s.Shaped ∧ s.ChannelsConserved) := by decide

theorem witness_PchkOpensOutputsUnderTheTrippingPolicy :
    ((breached .tripping).prot.en = true ∧ (breached .tripping).prot.latched = false ∧
      (breached .tripping).prot.policy = .tripping ∧ breach ((breached .tripping).chan 7) = true ∧
      (aggregate .tripping).prot.policy = .tripping ∧ aggBreach (aggregate .tripping) = true ∧
      calm.prot.en = true ∧ calm.prot.latched = false ∧ calm.prot.policy = .tripping ∧ aggBreach calm = false ∧
      ∀ c, c < calm.params.nCh → breach (calm.chan c) = false) ∧
      exec .pchk State.reset = .next State.reset := by exact ⟨by decide, rfl⟩

theorem witness_LatchedReasonIsStable :
    let s := queued (latchedState 2#8) 0x12000009#32;
      (s.prot.latched = true ∧ (∀ st ∈ s.inputs, st.mayUnlatch = false) ∧ s.inputs.length = 1) ∧
        step s = .next { s with inputs := [], resp := .write false } := by exact ⟨by decide, rfl⟩

theorem witness_PinsStayOffWhileLatched :
    (State.reset.prot.latched = false ∧ 3 < State.reset.params.nOut ∧ State.reset.DutyInRange) ∧
      let s := queued (latchedState 2#8) 0x12000009#32;
        s.prot.latched = true ∧ (∀ st ∈ s.inputs.take 1, st.mayUnlatch = false) ∧
          Host.Core.run Sys2Proof.core 1 s =
          .next { s with inputs := [], resp := .write false } := by exact ⟨by decide, rfl, by decide, rfl⟩

theorem witness_CstepRefusesBadConfiguration :
    ({ pi.comp with numLen := 0#4 } : Comp).numLen.toNat < 1 ∧
      pi.params.coefMax < ({ pi.comp with numLen := 9#4 } : Comp).numLen.toNat ∧
      ({ pi.comp with denLen := 0#4 } : Comp).denLen.toNat < 1 ∧
      pi.params.coefMax < ({ pi.comp with denLen := 9#4 } : Comp).denLen.toNat ∧
      1 ≤ pi.comp.numLen.toNat ∧ pi.comp.numLen.toNat ≤ pi.params.coefMax ∧ 1 ≤ pi.comp.denLen.toNat ∧
      pi.comp.denLen.toNat ≤ pi.params.coefMax ∧ (List.replicate 8 0#16 : List Half).getD 0 0#16 = 0#16 := by decide

theorem witness_IdentityCompensatorReturnsItsInput :
    State.reset.params.Legal ∧ -32768 ≤ (-32768 : Int) ∧ (-32768 : Int) ≤ 32767 ∧
      State.reset.comp.numLen = 1#4 ∧ State.reset.comp.denLen = 1#4 ∧ State.reset.comp.num.getD 0 0#16 = 1#16 ∧
      State.reset.comp.den.getD 0 0#16 = 1#16 := by decide

theorem witness_GradientStepMovesAfterSettleAndAverage :
    let s : State := { stepper { Gd.reset with settle := 1#16, avg := 0#16 } 99#32 with
        inputs := List.replicate 2 { ports := State.reset.ports, action := .busWrite 0x00C#13 (encode (.gstep (-32768))) } };
      s.params.Legal ∧ s.DutyInRange ∧ -32768 ≤ (-32768 : Int) ∧ (-32768 : Int) ≤ 32767 ∧ s.gd.setCnt = 0#16 ∧
        s.gd.avgCnt = 0#16 ∧ s.gd.acc = 0#32 ∧ s.gd.force = false ∧
        s.inputs = List.replicate (s.gd.settle.toNat + max s.gd.avg.toNat 1)
          { ports := State.reset.ports, action := .busWrite 0x00C#13 (encode (.gstep (-32768))) } := by decide

theorem witness_TickControlErrorFreezesControl :
    let s : State := { acting pi .tick with
        ctrl := { pi.ctrl with mode := .comp }, comp := { pi.comp with den := List.replicate 8 0#16 } };
      s.inputs = [{ ports := s.ports, action := .tick }] ∧ s.ctrl.mode = .comp ∧ 1 ≤ s.comp.numLen.toNat ∧
        s.comp.numLen.toNat ≤ s.params.coefMax ∧ 1 ≤ s.comp.denLen.toNat ∧ s.comp.denLen.toNat ≤ s.params.coefMax ∧
        s.comp.den.getD 0 0#16 = 0#16 ∧ (after s (step s)).prot.latched = false ∧
        (let b : State := { s with comp := { s.comp with numLen := 9#4 } };
          b.inputs = [{ ports := b.ports, action := .tick }] ∧ b.ctrl.mode = .comp ∧
            b.params.coefMax < b.comp.numLen.toNat ∧ (after b (step b)).prot.latched = false) ∧
        ({ s.comp with numLen := 0#4 } : Comp).numLen.toNat < 1 ∧
        ({ s.comp with denLen := 0#4 } : Comp).denLen.toNat < 1 ∧
        s.params.coefMax < ({ s.comp with denLen := 9#4 } : Comp).denLen.toNat := by decide

theorem witness_ControlPhaseRunsTheSelectedStrategy :
    let g : State := { State.reset with ctrl := { State.reset.ctrl with mode := .gd } };
      let k : State := { State.reset with ctrl := { State.reset.ctrl with mode := .comp } };
      let b : State := { k with comp := { k.comp with numLen := 0#4 } };
      (State.reset.ctrl.mode = .off ∧ (latchedState 2#8).prot.latched = true ∧ g.prot.latched = false ∧
      g.ctrl.mode = .gd ∧
        k.prot.latched = false ∧ k.ctrl.mode = .comp ∧ b.prot.latched = false ∧ b.ctrl.mode = .comp) ∧
        (∃ t, compStep 0 k = .ok t) ∧ compStep 0 b = .error .badConfig := by exact ⟨by decide, ⟨_, rfl⟩, rfl⟩

theorem witness_BusReadHasNoSideEffect :
    (one (.busRead 0x17FC#13)).inputs = [{ ports := State.reset.ports, action := .busRead 0x17FC#13 }] ∧
      regAt { Params.standard with nCh := 16 } 0x17FC#13 = some (.buf 15 31) ∧
      regAt State.reset.params 0x13FC#13 = some (.buf 7 31) := by decide

theorem witness_BusErrorIsRecordedAndAnswered :
    (0x1FFF#13 : Addr).toNat % 4 ≠ 0 ∧ regAt State.reset.params 0x1FFC#13 = none ∧
      (one (.busRead 0x034#13)).inputs = [{ ports := State.reset.ports, action := .busRead 0x034#13 }] ∧
      (one (.busWrite 0x1400#13 1#32)).inputs = [{ ports := State.reset.ports, action := .busWrite 0x1400#13 1#32 }] ∧
      regAt State.reset.params 0x034#13 = none ∧ regAt State.reset.params 0x1400#13 = none := by decide

theorem witness_ReadOnlyWritesAreIgnored :
    (one (.busWrite 0x000#13 1#32)).inputs = [{ ports := State.reset.ports, action := .busWrite 0x000#13 1#32 }] ∧
      regAt State.reset.params 0x000#13 = some .id ∧ regAt State.reset.params 0x2FC#13 = some (.chReserved 7 7) ∧
      regAt State.reset.params 0x13FC#13 = some (.buf 7 31) ∧ regAt State.reset.params 0x11C#13 = some (.yh 7) ∧
      (one (.busRead 0x00C#13)).inputs =
      [{ ports := State.reset.ports, action := .busRead 0x00C#13 }] := by decide +kernel

theorem witness_AddressMapIsExact :
    regAt Params.standard 0x1000#13 = some (.buf 0 0) ∧ Params.standard.Legal ∧
      [regAt .standard 0x034#13, regAt .standard 0x03C#13, regAt .standard 0x058#13,
        regAt .standard 0x05C#13, regAt .standard 0x08C#13, regAt .standard 0x09C#13,
        regAt .standard 0x120#13, regAt .standard 0x1FC#13, regAt .standard 0x300#13,
        regAt .standard 0xFFC#13, regAt .standard 0x1400#13, regAt .standard 0x1FFC#13] = List.replicate 12 none ∧
      [regAt oneCoef 0x0A4#13, regAt oneCoef 0x0C4#13, regAt oneCoef 0x0E4#13, regAt oneCoef 0x104#13] =
      List.replicate 4 none ∧
      (0x034#13 : Addr).toNat % 4 = 0 ∧ (0x1FFC#13 : Addr).toNat % 4 = 0 := by decide +kernel

theorem witness_ReadBackAfterWrite :
    (one (.busWrite 0x068#13 5#32)).inputs = [{ ports := State.reset.ports, action := .busWrite 0x068#13 5#32 }] ∧
      (0x068#13 : Addr) ≠ 0x00C#13 ∧ regAt State.reset.params 0x068#13 = some .vref ∧
      Reg.vref ≠ .num 7 ∧ State.reset.params.Legal ∧ State.reset.Shaped ∧ 7 < State.reset.params.coefMax ∧
      7 < State.reset.params.nCh := by decide

theorem witness_W1cWritesClearTheBitsWrittenAsOne :
    4 < 5 ∧ 2 < 3 ∧ 15 < 16 ∧
      (writeReg .status 0x1F#32 { State.reset with status := { Status.reset with
      err := 0x1F#5, lastErr := 5#4 } }).status.err = 0#5 ∧
      (writeReg .status 0x0F#32 { State.reset with status := { Status.reset with
      err := 0x1F#5, lastErr := 5#4 } }).status.err ≠ 0#5 := by decide

theorem witness_ChCfgWriteClearsOnAWindowChange :
    7 < State.reset.ch.length ∧ (chCfgOfWord 0x01#32).winLog2 = (State.reset.chan 7).cfg.winLog2 ∧
      (chCfgOfWord 0x0A#32).winLog2 ≠ (State.reset.chan 7).cfg.winLog2 ∧ (0x0A#32 : Word).extractLsb' 1 3 ≠ 6#3 ∧
      (0x0A#32 : Word).extractLsb' 1 3 ≠ 7#3 := by decide

theorem witness_ControlWritesAreLegalised : State.reset.params.Legal := by decide

theorem witness_RecordErrorDoesExactlyThis : Err.busError.code = 5 ∧ 4 < 5 := by decide

theorem witness_ErrorsAndEventsAreSticky :
    let st : Stimulus := { ports := State.reset.ports, action := .tick };
      let s := allErrors;
      (s.inputs = [st] ∧ st.resets = false ∧
        st.writes 0x010#13 = false ∧ st.writes 0x014#13 = false ∧ st.writes 0x018#13 = false ∧ irqO s = true) ∧
        step s = .next { s with inputs := [], tickCnt := 1#32 } := by exact ⟨by decide, rfl⟩

theorem witness_EveryStepKeepsEveryInvariant :
    let s := acting (State.reset.setChan 7 full) (.busRead 0x000#13);
      s.Inv ∧ step s = .next { s with inputs := [], resp := .read 0x50434B01#32 false } := by exact ⟨by decide, rfl⟩

theorem witness_ResetHasEveryInvariant :
    Params.standard.Legal ∧ State.reset = State.resetWith Params.standard ∧
      Params.Legal { nCh := 16, nOut := 16, coefMax := 8, midpoint := 65535, dutyScale := 65535, sfLog2 := 31 } ∧
      Params.Legal { nCh := 1, nOut := 0, coefMax := 1, midpoint := 0, dutyScale := 1, sfLog2 := 0 } := by decide

theorem witness_ChannelsStayConserved :
    ((one (.busRead 0x000#13)).ChannelsConserved ∧ full.Conserved) ∧
      step (one (.busRead 0x000#13)) =
      .next { State.reset with resp := .read 0x50434B01#32 false } := by exact ⟨by decide, rfl⟩

theorem witness_DutyStaysInRange :
    ((one (.busRead 0x000#13)).params.Legal ∧ (one (.busRead 0x000#13)).DutyInRange) ∧
      step (one (.busRead 0x000#13)) =
      .next { State.reset with resp := .read 0x50434B01#32 false } := by exact ⟨by decide, rfl⟩

theorem witness_DutyStaysInRange_others :
    let st : Stimulus := { ports := State.reset.ports, action := .busWrite 0x00C#13 0x10000000#32 };
      ((queued State.reset 0x10000000#32).inputs = [st] ∧ st.resets = false ∧ st.ticks = false ∧
      st.writes 0x064#13 = false ∧
        st.command = some .pchk ∧ writesDuty .pchk = false) ∧
        step (queued State.reset 0x10000000#32) =
        .next { State.reset with resp := .write false } := by exact ⟨by decide, rfl⟩

theorem witness_IdentificationIsConstant :
    State.reset.params.Legal ∧ step State.reset = .next State.reset := by exact ⟨by decide, rfl⟩

theorem witness_TickCounterCountsTicksOnly :
    let s : State := { one .tick with tickCnt := 0xFFFFFFFF#32 };
      (s.inputs = [{ ports := State.reset.ports, action := .tick }] ∧
        (∀ st ∈ s.inputs, st.ticks = true ∧ st.resets = false) ∧
        (∀ st ∈ (one .reset).inputs, st.resets = true) ∧ (∀ st ∈ (one (.busRead 0#13)).inputs, st.ticks = false)) ∧
        step s = .next { s with inputs := [], tickCnt := 0#32 } := by exact ⟨by decide, rfl⟩

theorem witness_OnlyArithmeticWritesFlags :
    let st : Stimulus := { ports := State.reset.ports, action := .busWrite 0x00C#13 0x10000000#32 };
      ((queued State.reset 0x10000000#32).inputs = [st] ∧ st.resets = false ∧ st.command = some .pchk ∧
      isArith .pchk = false) ∧
        step (queued State.reset 0x10000000#32) =
        .next { State.reset with resp := .write false } := by exact ⟨by decide, rfl⟩

theorem witness_OperandAndResultWriters :
    let st : Stimulus := { ports := State.reset.ports, action := .busWrite 0x00C#13 0x10000000#32 };
      ((queued State.reset 0x10000000#32).inputs = [st] ∧ st.resets = false ∧ st.writes 0x020#13 = false ∧
        st.writes 0x024#13 = false ∧ st.writes 0x028#13 = false ∧ st.command = some .pchk ∧
        writesResult .pchk = false ∧
        writesResultHi .pchk = false) ∧
        step (queued State.reset 0x10000000#32) =
        .next { State.reset with resp := .write false } := by exact ⟨by decide, rfl⟩

theorem witness_ResetStepGivesTheResetState :
    (one .reset).inputs = [{ ports := State.reset.ports, action := .reset }] := by decide

theorem witness_ResetRegisterValues :
    Params.standard.Legal ∧ 7 < Params.standard.coefMax ∧ 7 < Params.standard.nCh ∧ 31 < 32 := by decide

end Sys2Proof.Tests
end

section
/-!
The step principle: what a successful command leaves behind, said once (`Effect`), and the induction over the agent
steps that every frame statement and every invariant of 10_state.md is a use of (`agentStep_keeps`, `Kept.step`).
-/

namespace Sys2Proof.Machine

/-! ### The operands of a decoded command -/

theorem signedOperand_bounds (w : Word) : -32768 ≤ signedOperand w ∧ signedOperand w ≤ 32767 :=
  sext16_bounds (immField w)

/-- A command that comes from a word is one the assembler accepts: its operands fit their fields (R111, R117). -/
theorem decode_wf {w : Word} {i : Instr} (h : decode w = .ok i) : i.wf = true := by
  have hidx : indexOperand w ≤ 255 := Nat.le_of_lt_succ (idxField w).isLt
  have himm := signedOperand_bounds w
  have hreason : reasonOperand w ≤ 255 := Nat.le_of_lt_succ (w.extractLsb' 0 8).isLt
  have hshift : shiftOperand w ≤ 63 := Nat.le_of_lt_succ (w.extractLsb' 0 6).isLt
  have hwidth : widthOperand w ≤ 32 := (w.extractLsb' 0 5).isLt
  have hwidth' : 1 ≤ widthOperand w := Nat.le_add_left 1 _
  unfold decode at h
  split at h <;> cases h <;> simp [Instr.wf, *]

/-! ### What a command can do -/

/-- The commands whose rules raise an error: a bad index (R112), or `CSTEP`'s and `DIVT`'s own (R202, R249). -/
def mayRaise : Instr → Bool
  | .supd _ _ | .sget _ | .sclr _ | .oset _ _ | .cstep _ | .divt => true
  | .nop | .tick | .pchk | .pren | .pshd _ | .crst | .gstep _ | .gfrc | .droop _ => false
  | .add | .sub | .adds | .subs | .mul | .mulsc _ | .sat _ | .clamp => false

/-- `Effect s i t`: executing `i` at `s` can leave `t`. The arithmetic commands are told apart only by whether they write
`RESULT_HI`; `exec_effect` ties the relation to the model. -/
inductive Effect (s : State) : Instr → State → Prop where
  | raised {i : Instr} (e : Err) (hi : mayRaise i = true) : Effect s i (recordError e s)
  | nop : Effect s .nop s
  | supd (c : Nat) (x : Int) :
    Effect s (.supd c x)
      (withResult (chanUpdate s.params x (s.chan c)).avg (s.setChan c (chanUpdate s.params x (s.chan c))))
  | sget (c : Nat) : Effect s (.sget c) (withResult (s.chan c).avg s)
  | sclr (c : Nat) : Effect s (.sclr c) (s.setChan c (clearChannel (s.chan c)))
  | tick : Effect s .tick (tickStep s)
  | pchk : Effect s .pchk (protCheck s)
  | pren : Effect s .pren { s with prot := { s.prot with latched := false, reason := 0#8 } }
  | pshdLatched (r : Nat) : Effect s (.pshd r) s
  | pshdArmed (r : Nat) (k : BitVec 8) : Effect s (.pshd r) (enterLatch k s)
  | oset (o : Nat) (b : Bool) (ho : o < s.params.nOut) :
    Effect s (.oset o b) { s with prot := { s.prot with
      outEn := writeBit s.prot.outEn o b, trip := if b then writeBit s.prot.trip o false else s.prot.trip } }
  | cstep (x : Int) (r : Word) (t : State) (ht : compStep x s = .ok t) : Effect s (.cstep x) (withResult r t)
  | crst : Effect s .crst { s with comp := { s.comp with
      xh := List.replicate s.params.coefMax 0#16, yh := List.replicate s.params.coefMax s.ctrl.duty } }
  | gstep (e : Int) : Effect s (.gstep e) (withResult (gdStep e s).ctrl.duty (gdStep e s))
  | gfrc : Effect s .gfrc
      { s with gd := { s.gd with setCnt := s.gd.settle, avgCnt := 0#16, acc := 0#32, force := true } }
  | droop (d : Int) : Effect s (.droop d) (withResult (BitVec.ofInt 32 (droopTerm d s)) (applyDroop (droopTerm d s) s))
  | arith {i : Instr} (r : Int) (v : Bool) (hi : isArith i = true) : Effect s i (arithResult r v s)
  | arithHi {i : Instr} (r : Int) (v : Bool) (hi lo : Word) (h : writesResultHi i = true) :
    Effect s i (setFlags r v (withResultHi hi (withResult lo s)))

theorem settle_withChannel (c : Nat) (s : State) (f : Channel → State) :
    settle s (withChannel c s f) = f (s.chan c) ∨ settle s (withChannel c s f) = recordError .badIndex s := by
  rcases withChannel_cases c s f with ⟨-, e⟩ | ⟨-, e⟩
  · exact .inl (by rw [e, settle_ok])
  · exact .inr (by rw [e, settle_error])

/-- A command that completes has one of the effects of its own constructor. -/
theorem exec_effect {i : Instr} {s t : State} (h : exec i s = .next t) : Effect s i t := by
  cases i with
  | nop => exact complete_next_inv h ▸ .nop
  | supd c x =>
    rcases settle_withChannel c s _ with e | e <;> rw [complete_next_inv h, e]
    · exact .supd c x
    · exact .raised _ rfl
  | sget c =>
    rcases settle_withChannel c s _ with e | e <;> rw [complete_next_inv h, e]
    · exact .sget c
    · exact .raised _ rfl
  | sclr c =>
    rcases settle_withChannel c s _ with e | e <;> rw [complete_next_inv h, e]
    · exact .sclr c
    · exact .raised _ rfl
  | tick => exact complete_next_inv h ▸ .tick
  | pchk => exact complete_next_inv h ▸ .pchk
  | pren => exact complete_next_inv h ▸ .pren
  | pshd r =>
    rw [complete_next_inv h, settle_ok]
    split
    · exact .pshdLatched r
    · exact .pshdArmed r _
  | oset o b =>
    rcases withOutput_cases o s _ with ⟨ho, e⟩ | ⟨-, e⟩ <;> rw [complete_next_inv h, e]
    · exact .oset o b ho
    · exact .raised _ rfl
  | cstep x =>
    rw [complete_next_inv h]
    cases hc : compStep x s with
    | ok t => exact .cstep x _ t hc
    | error e => exact .raised e rfl
  | crst => exact complete_next_inv h ▸ .crst
  | gstep e => exact complete_next_inv h ▸ .gstep e
  | gfrc => exact complete_next_inv h ▸ .gfrc
  | droop d => exact complete_next_inv h ▸ .droop d
  | mul => exact complete_next_inv h ▸ .arithHi _ _ _ _ rfl
  | divt =>
    rw [complete_next_inv h]
    split
    · exact .raised _ rfl
    · exact .arithHi _ _ _ _ rfl
  | add | sub | adds | subs | clamp => exact complete_next_inv h ▸ .arith _ _ rfl
  | mulsc k => exact complete_next_inv h ▸ .arith _ _ rfl
  | sat n => exact complete_next_inv h ▸ .arith _ _ rfl

theorem isArith_of_writesResultHi {i : Instr} (h : writesResultHi i = true) : isArith i = true := by
  simp only [writesResultHi, Bool.or_eq_true, decide_eq_true_eq] at h
  rcases h with rfl | rfl <;> rfl

theorem writesResult_of_isArith {i : Instr} (h : isArith i = true) : writesResult i = true := by
  cases i <;> simp_all [isArith, writesResult]

theorem compStep_ok {x : Int} {s t : State} (h : compStep x s = .ok t) :
    t = setDuty (compOut x s) { s with comp := { s.comp with
      xh := pushHist s.params (BitVec.ofInt 16 x) s.comp.xh
      yh := pushHist s.params (BitVec.ofInt 32 (compOut x s)) s.comp.yh } } := by
  rcases compStep_cases x s with ⟨-, e⟩ | ⟨-, -, -, e⟩ | ⟨-, -, -, e⟩ <;> rw [h] at e <;> cases e
  rfl

/-! ### What a tick leaves alone -/

/-- A tick counts, and otherwise writes only channels, the interlock, the control registers, the events, and the error
fields of `STATUS` (41_sensor.md R150). -/
theorem tickStep_eq (s : State) :
    tickStep s = { s with
      tickCnt := s.tickCnt + 1#32
      ch := (tickStep s).ch
      status := { s.status with err := (tickStep s).status.err, lastErr := (tickStep s).status.lastErr }
      events := (tickStep s).events
      prot := (tickStep s).prot
      ctrl := (tickStep s).ctrl
      gd := (tickStep s).gd
      comp := (tickStep s).comp } := by
  unfold tickStep
  rw [controlTick_eq, protCheck_eq, refreshAll_eq, hwShutdown_eq]
  rfl

/-- A tick updates channels in its refresh phase only. -/
theorem tickStep_ch (s : State) : (tickStep s).ch = (refreshAll (hwShutdown (countTick s))).ch := by
  rw [tickStep, controlTick_eq, protCheck_eq]

/-- A refresh keeps what every single refreshed channel keeps. -/
theorem refreshAll_keeps {P : State → Prop} (h : ∀ (u : State) (c : Nat), P u → P (refreshChannel u c)) {s : State}
    (hs : P s) : P (refreshAll s) :=
  List.foldlRecOn _ _ hs fun u hu c _ => h u c hu

/-! ### What a command leaves alone -/

section Frames

variable {s t : State} {i : Instr}

/-- No command writes the parameters or an operand register (R30). -/
theorem Effect.params_args (h : Effect s i t) :
    t.params = s.params ∧ t.arg0 = s.arg0 ∧ t.arg1 = s.arg1 ∧ t.arg2 = s.arg2 := by
  cases h with
  | tick => rw [tickStep_eq]; exact ⟨rfl, rfl, rfl, rfl⟩
  | pchk => rw [protCheck_eq]; exact ⟨rfl, rfl, rfl, rfl⟩
  | cstep x r u hu => rw [compStep_ok hu]; exact ⟨rfl, rfl, rfl, rfl⟩
  | gstep e => rw [gdStep_eq]; exact ⟨rfl, rfl, rfl, rfl⟩
  | _ => exact ⟨rfl, rfl, rfl, rfl⟩

theorem Effect.params (h : Effect s i t) : t.params = s.params := by
  obtain ⟨hp, -⟩ := h.params_args
  exact hp

theorem Effect.arg0 (h : Effect s i t) : t.arg0 = s.arg0 := by
  obtain ⟨-, h0, -⟩ := h.params_args
  exact h0

theorem Effect.arg1 (h : Effect s i t) : t.arg1 = s.arg1 := by
  obtain ⟨-, -, h1, -⟩ := h.params_args
  exact h1

theorem Effect.arg2 (h : Effect s i t) : t.arg2 = s.arg2 := by
  obtain ⟨-, -, -, h2⟩ := h.params_args
  exact h2

/-- Only `TICK` writes `TICK_CNT` (R29). -/
theorem Effect.tickCnt (h : Effect s i t) (hi : i ≠ .tick) : t.tickCnt = s.tickCnt := by
  cases h with
  | tick => exact absurd rfl hi
  | pchk => rw [protCheck_eq]
  | cstep x r u hu => rw [compStep_ok hu]; rfl
  | gstep e => rw [gdStep_eq]; rfl
  | _ => rfl

/-- Only the arithmetic family writes the flags (R240). -/
theorem Effect.flags (h : Effect s i t) (hi : isArith i = false) :
    t.status.z = s.status.z ∧ t.status.n = s.status.n ∧ t.status.v = s.status.v := by
  cases h with
  | tick => rw [tickStep_eq]; exact ⟨rfl, rfl, rfl⟩
  | pchk => rw [protCheck_eq]; exact ⟨rfl, rfl, rfl⟩
  | cstep x r u hu => rw [compStep_ok hu]; exact ⟨rfl, rfl, rfl⟩
  | gstep e => rw [gdStep_eq]; exact ⟨rfl, rfl, rfl⟩
  | arith r v ha => simp [ha] at hi
  | arithHi r v hi' lo hw => simp [isArith_of_writesResultHi hw] at hi
  | _ => exact ⟨rfl, rfl, rfl⟩

/-- Only the commands of R31 write `RESULT`. -/
theorem Effect.result (h : Effect s i t) (hi : writesResult i = false) : t.result = s.result := by
  cases h with
  | tick => rw [tickStep_eq]
  | pchk => rw [protCheck_eq]
  | arith r v ha => simp [writesResult_of_isArith ha] at hi
  | arithHi r v hi' lo hw => simp [writesResult_of_isArith (isArith_of_writesResultHi hw)] at hi
  | supd | sget | cstep | gstep | droop => cases hi
  | _ => rfl

/-- Only `MUL` and `DIVT` write `RESULT_HI` (R31). -/
theorem Effect.resultHi (h : Effect s i t) (hi : writesResultHi i = false) : t.resultHi = s.resultHi := by
  cases h with
  | tick => rw [tickStep_eq]
  | pchk => rw [protCheck_eq]
  | cstep x r u hu => rw [compStep_ok hu]; rfl
  | gstep e => rw [gdStep_eq]; rfl
  | arithHi r v hi' lo hw => simp [hw] at hi
  | _ => rfl

end Frames

/-! ### The step principle -/

section StepPrinciple

variable {P : State → Prop} {s t : State} {st : Stimulus} {rest : List Stimulus}

/-- What everything that one agent step can do keeps, the step keeps. -/
theorem agentStep_keeps (hi : s.inputs = st :: rest) (h : step s = .next t)
    (transfer : ∀ u inputs ports resp, P u → P { u with inputs := inputs, ports := ports, resp := resp })
    (record : ∀ e u, P u → P (recordError e u))
    (write : ∀ a v r u, st.action = .busWrite a v → regAt u.params a = some r → P u → P (writeReg r v u))
    (command : ∀ i u v, st.command = some i → i.wf = true → Effect u i v → P u → P v)
    (tick : ∀ u, st.action = .tick → P u → P (tickStep u))
    (reset : ∀ u, st.action = .reset → P u → P (resetStep u)) (hs : P s) : P t := by
  have hp : P (present st rest s) := transfer s _ _ _ hs
  have respond_keeps : ∀ r u, P u → P (respond r u) := fun r u hu => transfer u u.inputs u.ports r hu
  rcases step_cases h with ⟨hn, -⟩ | ⟨st', rest', hi', hstep⟩
  · simp [hn] at hi
  obtain ⟨rfl, rfl⟩ : st' = st ∧ rest' = rest := by simpa [hi'] using hi
  rcases hstep with ⟨a, -, rfl⟩ | ⟨a, v, ha, -, rfl⟩ | ⟨v, i, ha, hd, hx⟩ | ⟨v, e, -, -, rfl⟩ | ⟨ha, rfl⟩ | ⟨ha, rfl⟩
  · rcases busRead_cases a (present st' rest' s) with ⟨r, -, e⟩ | ⟨-, e⟩ <;> rw [e]
    · exact respond_keeps _ _ hp
    · exact respond_keeps _ _ (record _ _ hp)
  · rcases busWrite_cases a v (present st' rest' s) with ⟨r, hr, e⟩ | ⟨-, e⟩ <;> rw [e]
    · exact respond_keeps _ _ (write a v r _ ha hr hp)
    · exact respond_keeps _ _ (record _ _ hp)
  · have hc : st'.command = some i := by simp [Stimulus.command, ha, hd, Except.toOption]
    exact command i _ t hc (decode_wf hd) (exec_effect hx) (respond_keeps _ _ hp)
  · exact record _ _ (respond_keeps _ _ hp)
  · exact tick _ ha hp
  · exact reset _ ha hp

/-- A part of the state that everything which one agent step can do leaves alone is left alone by the step; reset apart. -/
theorem agentStep_frame {α : Type} (F : State → α) (hi : s.inputs = st :: rest) (h : step s = .next t)
    (hr : st.resets = false)
    (transfer : ∀ u inputs ports resp, F { u with inputs := inputs, ports := ports, resp := resp } = F u)
    (record : ∀ e u, F (recordError e u) = F u)
    (write : ∀ a v r u, st.action = .busWrite a v → regAt u.params a = some r → F (writeReg r v u) = F u)
    (command : ∀ i u v, st.command = some i → Effect u i v → F v = F u)
    (tick : ∀ u, st.action = .tick → F (tickStep u) = F u) : F t = F s :=
  agentStep_keeps (P := fun u => F u = F s) hi h
    (fun u _ _ _ hu => (transfer u _ _ _).trans hu)
    (fun e u hu => (record e u).trans hu)
    (fun a v r u ha hr hu => (write a v r u ha hr).trans hu)
    (fun i u v hc _ he hu => (command i u v hc he).trans hu)
    (fun u ha hu => (tick u ha).trans hu)
    (fun _ ha => absurd ha (of_decide_eq_false hr)) rfl

end StepPrinciple

/-- What every operation of the machine keeps, whichever agent acts. -/
structure Kept (P : State → Prop) : Prop where
  transfer : ∀ u inputs ports resp, P u → P { u with inputs := inputs, ports := ports, resp := resp }
  record : ∀ e u, P u → P (recordError e u)
  write : ∀ r v u, P u → P (writeReg r v u)
  command : ∀ i u v, i.wf = true → Effect u i v → P u → P v
  reset : ∀ u, P u → P (resetStep u)

/-- A predicate that every operation keeps is kept by every step; the tick source does what `TICK` does (R151). -/
theorem Kept.step {P : State → Prop} (K : Kept P) {s t : State} (h : step s = .next t) (hs : P s) : P t := by
  cases hi : s.inputs with
  | nil =>
    rcases step_cases h with ⟨-, rfl⟩ | ⟨st, rest, hi', -⟩
    · exact hs
    · simp [hi'] at hi
  | cons st rest =>
    exact agentStep_keeps hi h K.transfer K.record (fun _ v r u _ _ => K.write r v u)
      (fun i u v _ hw he => K.command i u v hw he) (fun u _ => K.command .tick u _ rfl .tick) (fun u _ => K.reset u) hs

end Sys2Proof.Machine
end

section
/-!
R46: every channel keeps the exact sum of its window, the cursor bound, the recomputed average and the empty tail. The
update is the one operation that has to work for it; the others clear a channel or do not touch these fields.
-/

namespace Sys2Proof.Machine

/-! ### One channel -/

theorem length_windowSlots (x : Channel) : (x.buf.toList.take x.window).length = x.window := by
  simp [window_le x]

/-- R46 (e): the accumulator of a conserved channel fits 21 bits. -/
theorem Channel.Conserved.acc_bounds {x : Channel} (h : x.Conserved) :
    -(32768 * (x.window : Int)) ≤ sext x.acc ∧ sext x.acc ≤ 32767 * x.window := by
  have b := sum_sext_bounds (x.buf.toList.take x.window)
  rwa [length_windowSlots, ← h.1] at b

/-- The window after an update is the old one with the slot at the cursor replaced. -/
theorem chanUpdate_windowSlots (p : Params) (v : Int) (x : Channel) :
    (chanUpdate p v x).buf.toList.take (chanUpdate p v x).window =
      (x.buf.toList.take x.window).set x.cur.toNat (BitVec.ofInt 16 (storedSample p x v)) := by
  rw [chanUpdate_window, ← List.take_set]
  simp [chanUpdate, Vector.toList_set]

/-- R147: the sum of the window after an update, exactly. -/
theorem sum_chanUpdate_windowSlots (p : Params) (v : Int) (x : Channel) (hc : x.cur.toNat < x.window)
    (hv : -32768 ≤ v ∧ v ≤ 32767) :
    (((chanUpdate p v x).buf.toList.take (chanUpdate p v x).window).map sext).sum =
      ((x.buf.toList.take x.window).map sext).sum - sext (x.slot x.cur.toNat) + storedSample p x v := by
  obtain ⟨h1, h2⟩ := storedSample_bounds p x v hv.1 hv.2
  have hk : x.cur.toNat < (x.buf.toList.take x.window).length := by rwa [length_windowSlots]
  rw [chanUpdate_windowSlots, sum_sext_set _ _ hk, sext_ofInt16 _ h1 h2, slot_of_lt x _ x.cur.isLt]
  simp

/-- An update keeps R46: both sums move by the same difference, and neither leaves 32 bits. -/
theorem chanUpdate_conserved (p : Params) {v : Int} {x : Channel} (h : x.Conserved) (hv : -32768 ≤ v ∧ v ≤ 32767) :
    (chanUpdate p v x).Conserved := by
  obtain ⟨hacc, hcur, -, htail⟩ := h
  have hw := window_le x
  have hsum := sum_chanUpdate_windowSlots p v x hcur hv
  have b := sum_sext_bounds ((chanUpdate p v x).buf.toList.take (chanUpdate p v x).window)
  rw [length_windowSlots, hsum, ← hacc, chanUpdate_window] at b
  have hnew : sext (chanUpdate p v x).acc = sext x.acc - sext (x.slot x.cur.toNat) + storedSample p x v :=
    sext_ofInt32 _ (by omega) (by omega)
  have m := tdiv_window_bounds _ x.window (window_pos x) b.1 (by omega)
  refine ⟨?_, ?_, ?_, ?_⟩
  · rw [hnew, hsum, hacc]
  · rw [chanUpdate_cur, chanUpdate_window]
    exact Nat.mod_lt _ (window_pos x)
  · rw [hnew]
    exact sext_ofInt32 _ (by omega) (by omega)
  · intro k hk hwk
    rw [chanUpdate_window] at hwk
    rw [chanUpdate_slot, if_neg (by omega)]
    exact htail k hk hwk

/-- A cleared channel has R46, whatever its window (R145). -/
theorem clearChannel_conserved (x : Channel) : (clearChannel x).Conserved := by
  refine ⟨?_, window_pos _, ?_, fun k _ _ => clearChannel_slot x k⟩
  · have hbuf : (clearChannel x).buf = Vector.replicate 32 0#16 := rfl
    rw [hbuf, Vector.toList_replicate, List.take_replicate, List.map_replicate, List.sum_replicate]
    simp [sext]
  · simp [tdiv, sext]

theorem reset_conserved : Channel.reset.Conserved := clearChannel_conserved Channel.reset

/-- Only the window of a configuration matters to R46. -/
theorem conserved_withCfg {x : Channel} {k : ChCfg} (h : x.Conserved) (hk : k.winLog2 = x.cfg.winLog2) :
    ({ x with cfg := k } : Channel).Conserved := by
  have hw : ({ x with cfg := k } : Channel).window = x.window := by simp only [Channel.window, hk]
  unfold Channel.Conserved
  rw [hw]
  exact h

/-- A `CH_CFG` write keeps R46: a changed window clears the channel (R42). -/
theorem writeChCfg_conserved (v : Word) {x : Channel} (h : x.Conserved) : (writeChCfg v x).Conserved := by
  unfold writeChCfg
  simp only []
  split
  · exact conserved_withCfg h ‹_›
  · exact clearChannel_conserved _

/-! ### Every channel -/

/-- A channel that the state does not have reads as the reset channel, which has R46 too. -/
theorem chan_conserved {s : State} (h : s.ChannelsConserved) (c : Nat) : (s.chan c).Conserved := by
  rcases chan_cases s c with hc | hc
  · exact h _ hc
  · exact hc ▸ reset_conserved

theorem setChan_channelsConserved {s : State} (h : s.ChannelsConserved) (c : Nat) {x : Channel} (hx : x.Conserved) :
    (s.setChan c x).ChannelsConserved :=
  forall_setChan h hx

theorem refreshed_conserved (s : State) (c : Nat) {x : Channel} (h : x.Conserved) :
    (chanUpdate s.params (s.sample c) x).Conserved :=
  chanUpdate_conserved _ h (sext16_bounds _)

theorem refreshChannel_channelsConserved (s : State) (c : Nat) (h : s.ChannelsConserved) :
    (refreshChannel s c).ChannelsConserved := by
  unfold refreshChannel
  simp only []
  split
  · exact setChan_channelsConserved h c (refreshed_conserved s c (chan_conserved h c))
  · exact h

theorem resetWith_channelsConserved (p : Params) : (State.resetWith p).ChannelsConserved := by
  intro x hx
  obtain rfl : x = Channel.reset := List.eq_of_mem_replicate hx
  exact reset_conserved

theorem writeReg_channelsConserved (r : Reg) (v : Word) (s : State) (h : s.ChannelsConserved) :
    (writeReg r v s).ChannelsConserved := by
  cases r with
  | chCfg c => exact setChan_channelsConserved h c (writeChCfg_conserved v (chan_conserved h c))
  | chLimit c => exact setChan_channelsConserved h c (chan_conserved h c)
  | _ => exact h

theorem tickStep_channelsConserved (s : State) (h : s.ChannelsConserved) : (tickStep s).ChannelsConserved := by
  have hs : (hwShutdown (countTick s)).ChannelsConserved := by
    rw [hwShutdown_eq]
    exact h
  unfold State.ChannelsConserved
  rw [tickStep_ch]
  exact refreshAll_keeps (P := State.ChannelsConserved) refreshChannel_channelsConserved hs

theorem Effect.channelsConserved {i : Instr} {s t : State} (hw : i.wf = true) (he : Effect s i t)
    (h : s.ChannelsConserved) : t.ChannelsConserved := by
  cases he with
  | supd c x =>
    have hx : -32768 ≤ x ∧ x ≤ 32767 := by
      simp only [Instr.wf, Bool.and_eq_true, immOk_iff] at hw
      exact hw.2
    exact setChan_channelsConserved h c (chanUpdate_conserved _ (chan_conserved h c) hx)
  | sclr c => exact setChan_channelsConserved h c (clearChannel_conserved _)
  | tick => exact tickStep_channelsConserved s h
  | pchk =>
    rw [protCheck_eq]
    exact h
  | cstep x r u hu =>
    rw [compStep_ok hu]
    exact h
  | gstep e =>
    rw [gdStep_eq]
    exact h
  | _ => exact h

theorem kept_channelsConserved : Kept State.ChannelsConserved where
  transfer _ _ _ _ h := h
  record _ _ h := h
  write := writeReg_channelsConserved
  command _ _ _ := Effect.channelsConserved
  reset u _ := resetWith_channelsConserved u.params

/-- Settles O52: every operation keeps R46 (a) to (d), and (e) is the bound of a sum of at most 32 samples. -/
theorem channelsStayConserved : Obligations.ChannelsStayConserved := by
  refine ⟨fun s t hs h => kept_channelsConserved.step h hs, resetWith_channelsConserved, fun x hx => ?_⟩
  have hacc : -(32768 * (x.window : Int)) ≤ x.acc.toInt ∧ x.acc.toInt ≤ 32767 * x.window := hx.acc_bounds
  have hw := window_le x
  rw [abs_le]
  omega

end Sys2Proof.Machine
end

section
/-!
The invariants of 70_reset_and_hazards.md R301 together. First each group of registers with the one conjunct of
`State.Inv` it carries, then the operations that write it, then the step.
-/

namespace Sys2Proof.Machine

/-! ### Registers of one bit per channel or output -/

/-- A register holds only existing bits exactly when its bits from `n` up are 0. -/
theorem and_lowBits_eq_self_iff (m : BitVec 16) (n : Nat) :
    m &&& lowBits n = m ↔ ∀ j, j < 16 → n ≤ j → m.getLsbD j = false := by
  constructor
  · intro h j hj hn
    rw [← h, BitVec.getLsbD_and, getLsbD_lowBits n j hj]
    simp [Nat.not_lt.mpr hn]
  · intro h
    apply BitVec.eq_of_getLsbD_eq
    intro j hj
    rw [BitVec.getLsbD_and, getLsbD_lowBits n j hj]
    by_cases hn : j < n
    · simp [hn]
    · simp [h j hj (Nat.le_of_not_lt hn)]

theorem legal_and (m k : BitVec 16) (n : Nat) (h : m &&& lowBits n = m) : (m &&& k) &&& lowBits n = m &&& k := by
  rw [BitVec.and_assoc, BitVec.and_comm k, ← BitVec.and_assoc, h]

theorem legal_masked (m : BitVec 16) (n : Nat) : (m &&& lowBits n) &&& lowBits n = m &&& lowBits n := by
  rw [BitVec.and_assoc, BitVec.and_self]

theorem legal_or_bitsOf {m : BitVec 16} {n : Nat} {is : List Nat} (h : m &&& lowBits n = m) (his : ∀ i ∈ is, i < n) :
    (m ||| bitsOf is) &&& lowBits n = m ||| bitsOf is := by
  rw [and_lowBits_eq_self_iff] at h ⊢
  intro j hj hn
  rw [BitVec.getLsbD_or, h j hj hn, getLsbD_bitsOf is j hj, Bool.false_or, decide_eq_false_iff_not]
  exact fun hmem => absurd (his j hmem) (Nat.not_lt.mpr hn)

/-- Setting an existing bit, or clearing any, adds no bit beyond `n`. -/
theorem legal_writeBit {m : BitVec 16} {n i : Nat} {b : Bool} (h : m &&& lowBits n = m) (hi : b = true → i < n) :
    writeBit m i b &&& lowBits n = writeBit m i b := by
  rw [and_lowBits_eq_self_iff] at h ⊢
  intro j hj hn
  rw [getLsbD_writeBit m i j b hj, h j hj hn]
  cases b with
  | false => simp
  | true =>
    have := hi rfl
    simp
    omega

/-! ### Errors -/

theorem recordError_lastErrConsistent (e : Err) (s : State) : (recordError e s).LastErrConsistent := by
  have hcode : BitVec.ofNat 4 e.code ≠ 0#4 := by cases e <;> decide
  have hbit : BitVec.twoPow 5 (e.code - 1) ≠ 0#5 := by cases e <;> decide
  simp only [State.LastErrConsistent, recordError_status, hcode, BitVec.or_eq_zero_iff, hbit, and_false]

theorem clearErrors_lastErrConsistent (m : BitVec 5) (s : State) (h : s.LastErrConsistent) :
    (clearErrors m s).LastErrConsistent := by
  simp only [State.LastErrConsistent, clearErrors_status]
  split
  · simp [*]
  · rename_i hne
    have herr : s.status.err ≠ 0#5 := fun h0 => hne (by simp [h0])
    exact iff_of_false (fun h0 => herr (h.mp h0)) hne

/-! ### `DUTY` -/

/-- Every write of `DUTY` is clamped (R231). -/
theorem setDuty_dutyInRange (v : Int) (s : State) (h : s.params.Legal) : (setDuty v s).DutyInRange := by
  have hs : s.scale ≤ 99 * s.scale := by
    have : (0 : Int) ≤ s.scale := Int.natCast_nonneg _
    omega
  unfold State.DutyInRange
  rw [sext_setDuty v s h]
  exact clamp_bounds v _ _ hs

/-! ### What a write of one group of registers has to show -/

section Groups

variable {s : State}

theorem inv_recordError (e : Err) (h : s.Inv) : (recordError e s).Inv := by
  obtain ⟨legal, shaped, channels, duty, armed, stepper, -, fields⟩ := h
  exact ⟨legal, shaped, channels, duty, armed, stepper, recordError_lastErrConsistent e s, fields⟩

theorem inv_clearErrors (m : BitVec 5) (h : s.Inv) : (clearErrors m s).Inv := by
  obtain ⟨legal, shaped, channels, duty, armed, stepper, errors, fields⟩ := h
  exact ⟨legal, shaped, channels, duty, armed, stepper, clearErrors_lastErrConsistent m s errors, fields⟩

theorem inv_setChan (c : Nat) {x : Channel} (hx : x.Conserved) (h : s.Inv) : (s.setChan c x).Inv := by
  obtain ⟨legal, ⟨hch, hnum, hden, hxh, hyh⟩, channels, rest⟩ := h
  have hlen : (s.setChan c x).ch.length = s.params.nCh := by rw [setChan_ch, List.length_set, hch]
  exact ⟨legal, ⟨hlen, hnum, hden, hxh, hyh⟩, setChan_channelsConserved channels c hx, rest⟩

theorem inv_setDuty (v : Int) (h : s.Inv) : (setDuty v s).Inv := by
  obtain ⟨legal, shaped, channels, -, rest⟩ := h
  exact ⟨legal, shaped, channels, setDuty_dutyInRange v s legal, rest⟩

/-- The interlock's registers: the reason while Armed, and the existing bits of three registers. -/
theorem inv_withProt {q : Prot} (h : s.Inv) (hreason : q.latched = false → q.reason = 0#8)
    (hagg : q.aggMask &&& lowBits s.params.nCh = q.aggMask) (hout : q.outEn &&& lowBits s.params.nOut = q.outEn)
    (htrip : q.trip &&& lowBits s.params.nCh = q.trip) : ({ s with prot := q } : State).Inv := by
  obtain ⟨legal, shaped, channels, duty, -, stepper, errors, -, -, -, fb, droop⟩ := h
  exact ⟨legal, shaped, channels, duty, hreason, stepper, errors, hagg, hout, htrip, fb, droop⟩

/-- The stepper's registers, while no sample is accumulated. -/
theorem inv_withGd_empty {g : Gd} (h : s.Inv) (hcnt : g.avgCnt = 0#16) (hacc : g.acc = 0#32) :
    ({ s with gd := g } : State).Inv := by
  obtain ⟨legal, shaped, channels, duty, armed, -, rest⟩ := h
  have stepper : ({ s with gd := g } : State).StepperBounded := by
    simp [State.StepperBounded, hcnt, hacc, sext]
  exact ⟨legal, shaped, channels, duty, armed, stepper, rest⟩

/-- The compensator's registers: four lists of the length that exists. -/
theorem inv_withComp {k : Comp} (h : s.Inv) (hnum : k.num.length = s.params.coefMax)
    (hden : k.den.length = s.params.coefMax) (hxh : k.xh.length = s.params.coefMax)
    (hyh : k.yh.length = s.params.coefMax) : ({ s with comp := k } : State).Inv := by
  obtain ⟨legal, ⟨hch, -⟩, rest⟩ := h
  exact ⟨legal, ⟨hch, hnum, hden, hxh, hyh⟩, rest⟩

/-! ### Protection -/

theorem inv_enterLatch (r : BitVec 8) (h : s.Inv) : (enterLatch r s).Inv := by
  obtain ⟨-, -, -, -, -, -, -, hagg, hout, htrip, -⟩ := id h
  exact inv_withProt (s := raiseEvent evLatch s) h (fun hl => nomatch hl) hagg hout htrip

theorem inv_recordTrips {is : List Nat} (a : Bool) (h : s.Inv) (his : ∀ i ∈ is, i < s.params.nCh) :
    (recordTrips is a s).Inv := by
  obtain ⟨-, -, -, -, armed, -, -, hagg, hout, htrip, -⟩ := id h
  exact inv_withProt h armed hagg hout (legal_or_bitsOf htrip his)

/-- Opening outputs is clearing bits of `OUT_EN`. -/
theorem inv_maskOutEn (k : BitVec 16) (h : s.Inv) :
    ({ s with prot := { s.prot with outEn := s.prot.outEn &&& k } } : State).Inv := by
  obtain ⟨-, -, -, -, armed, -, -, hagg, hout, htrip, -⟩ := id h
  exact inv_withProt h armed hagg (legal_and _ k _ hout) htrip

theorem inv_latchEffect {is : List Nat} (a : Bool) (h : s.Inv) (his : ∀ i ∈ is, i < s.params.nCh) :
    (latchEffect is a s).Inv := by
  have ht := inv_recordTrips a h his
  unfold latchEffect
  simp only []
  split
  · exact inv_enterLatch _ ht
  · exact ht

theorem inv_tripEffect {is : List Nat} (a : Bool) (h : s.Inv) (his : ∀ i ∈ is, i < s.params.nCh) :
    (tripEffect is a s).Inv := by
  have ht := inv_recordTrips a h his
  unfold tripEffect
  simp only []
  have hu (k : BitVec 16) : ({ recordTrips is a s with prot := { (recordTrips is a s).prot with
      outEn := if a then 0#16 else (recordTrips is a s).prot.outEn &&& k } } : State).Inv := by
    cases a with
    | false => exact inv_maskOutEn k ht
    | true => simpa using inv_maskOutEn 0#16 ht
  split
  · exact hu _
  · exact hu _

theorem inv_protCheck (h : s.Inv) : (protCheck s).Inv := by
  have his : ∀ i ∈ breaching s, i < s.params.nCh := fun i hi => ((mem_breaching s i).mp hi).1
  unfold protCheck
  split
  · rcases protEval_cases s with ⟨-, e⟩ | ⟨-, -, e⟩ | ⟨-, -, e⟩ <;> rw [e]
    · exact h
    · exact inv_latchEffect _ h his
    · exact inv_tripEffect _ h his
  · exact h

theorem inv_hwShutdown (h : s.Inv) : (hwShutdown s).Inv := by
  rcases hwShutdown_cases s with ⟨-, -, e⟩ | ⟨-, e⟩ <;> rw [e]
  · exact inv_enterLatch _ h
  · exact h

/-! ### Control -/

theorem inv_compStep {x : Int} {t : State} (ht : compStep x s = .ok t) (h : s.Inv) : t.Inv := by
  obtain ⟨-, ⟨-, hnum, hden, hxh, hyh⟩, -⟩ := id h
  rw [compStep_ok ht]
  exact inv_setDuty _ (inv_withComp h hnum hden (length_pushHist _ _ _ hxh) (length_pushHist _ _ _ hyh))

/-- The accumulating call keeps R223: one more sample, at most 32768 in size, and never the 65535th. -/
theorem stepperBounded_accumulate {e : Int} (h : s.StepperBounded) (he : -32768 ≤ e ∧ e ≤ 32768)
    (hcnt : s.gd.avgCnt.toNat + 1 < s.gd.avg.toNat) :
    ({ s with gd := { s.gd with
      acc := BitVec.ofInt 32 (sext s.gd.acc + e), avgCnt := BitVec.ofNat 16 (s.gd.avgCnt.toNat + 1) } } :
      State).StepperBounded := by
  obtain ⟨-, hlo, hhi⟩ := h
  have havg : s.gd.avg.toNat < 65536 := s.gd.avg.isLt
  have hn : (BitVec.ofNat 16 (s.gd.avgCnt.toNat + 1)).toNat = s.gd.avgCnt.toNat + 1 := by
    rw [BitVec.toNat_ofNat]
    omega
  have ha : sext (BitVec.ofInt 32 (sext s.gd.acc + e)) = sext s.gd.acc + e := sext_ofInt32 _ (by omega) (by omega)
  simp only [State.StepperBounded, hn, ha]
  omega

theorem inv_gdStep {e : Int} (h : s.Inv) (he : -32768 ≤ e ∧ e ≤ 32768) : (gdStep e s).Inv := by
  rcases gdStep_cases e s with ⟨-, -, hg⟩ | ⟨-, -, hcnt, hg⟩ | ⟨-, t, rfl, ⟨-, hg⟩ | ⟨-, hg⟩ | ⟨-, hg⟩⟩ <;> rw [hg]
  case inr.inl =>
    obtain ⟨legal, shaped, channels, duty, armed, stepper, rest⟩ := h
    exact ⟨legal, shaped, channels, duty, armed, stepperBounded_accumulate stepper he hcnt, rest⟩
  · exact h
  · exact inv_setDuty _ (inv_withGd_empty h rfl rfl)
  · exact inv_setDuty _ (inv_withGd_empty h rfl rfl)
  · exact inv_withGd_empty h rfl rfl

theorem inv_tickReference (h : s.Inv) : (tickReference s).Inv := by
  rw [tickReference_eq]
  exact h

theorem controlError_bounds (s : State) : -32768 ≤ controlError s ∧ controlError s ≤ 32768 := by
  have hb : -32768 ≤ controlError s ∧ controlError s ≤ 32767 := sat16_bounds _
  omega

theorem inv_controlTick (h : s.Inv) : (controlTick s).Inv := by
  rcases controlTick_cases s with ⟨-, e⟩ | ⟨-, -, e⟩ | ⟨-, -, e⟩ <;> rw [e]
  · exact h
  · rcases settle_cases s (compStep (controlError (tickReference s)) (tickReference s)) with
      ⟨t, ht, e⟩ | ⟨k, -, e⟩ <;> rw [e]
    · exact inv_compStep ht (inv_tickReference h)
    · exact inv_recordError k h
  · exact inv_gdStep (inv_tickReference h) (controlError_bounds _)

/-! ### The tick -/

theorem inv_refreshChannel (s : State) (c : Nat) (h : s.Inv) : (refreshChannel s c).Inv := by
  obtain ⟨-, -, channels, -⟩ := id h
  unfold refreshChannel
  simp only []
  split
  · exact inv_setChan c (refreshed_conserved s c (chan_conserved channels c)) h
  · exact h

theorem inv_tickStep (h : s.Inv) : (tickStep s).Inv := by
  have hcount : (countTick s).Inv := h
  exact inv_controlTick (inv_protCheck (refreshAll_keeps inv_refreshChannel (inv_hwShutdown hcount)))

end Groups

/-! ### Reset -/

theorem inv_resetWith {p : Params} (h : p.Legal) : (State.resetWith p).Inv := by
  obtain ⟨⟨hch, -⟩, -, ⟨hcoef, -⟩, -, ⟨hs1, hs2⟩, -⟩ := id h
  have hlow (n : Nat) : 0#16 &&& lowBits n = 0#16 := BitVec.zero_and
  have shaped : (State.resetWith p).Shaped := by
    refine ⟨List.length_replicate, ?_, ?_, List.length_replicate, List.length_replicate⟩
    all_goals
      simp only [State.resetWith, Comp.reset, List.length_cons, List.length_replicate]
      omega
  have duty : (State.resetWith p).DutyInRange := by
    have hd : sext (BitVec.ofNat 32 p.dutyScale) = p.dutyScale := sext_ofInt32 p.dutyScale (by omega) (by omega)
    simp only [State.DutyInRange, State.scale, State.resetWith, Ctrl.reset, hd]
    omega
  have stepper : (State.resetWith p).StepperBounded := by
    simp [State.StepperBounded, State.resetWith, Gd.reset, sext]
  exact ⟨h, shaped, resetWith_channelsConserved p, duty, fun _ => rfl, stepper,
    iff_of_true rfl rfl, hlow _, hlow _, hlow _, hch, hch⟩

/-! ### A register write -/

theorem legalChannel_lt {p : Params} (h : p.Legal) (v : BitVec 4) : (legalChannel p v).toNat < p.nCh := by
  obtain ⟨⟨h1, h2⟩, -⟩ := h
  unfold legalChannel
  split
  · assumption
  · rw [BitVec.toNat_ofNat]
    omega

theorem inv_writeReg (r : Reg) (v : Word) (s : State) (h : s.Inv) : (writeReg r v s).Inv := by
  obtain ⟨legal, ⟨hch, hnum, hden, hxh, hyh⟩, channels, duty, armed, stepper, errors, hagg, hout, htrip, -⟩ := id h
  cases r with
  | status => exact inv_clearErrors _ h
  | aggMask => exact inv_withProt h armed (legal_masked _ _) hout htrip
  | outEn => exact inv_withProt h armed hagg (legal_masked _ _) htrip
  | trip => exact inv_withProt h armed hagg hout (legal_and _ _ _ htrip)
  | ctrlCfg =>
    exact ⟨legal, ⟨hch, hnum, hden, hxh, hyh⟩, channels, duty, armed, stepper, errors, hagg, hout, htrip,
      legalChannel_lt legal _, legalChannel_lt legal _⟩
  | duty => exact inv_setDuty _ h
  | num i => exact inv_withComp h (by rw [List.length_set, hnum]) hden hxh hyh
  | den i => exact inv_withComp h hnum (by rw [List.length_set, hden]) hxh hyh
  | chCfg c => exact inv_setChan c (writeChCfg_conserved v (chan_conserved channels c)) h
  | chLimit c => exact inv_setChan c (chan_conserved channels c) h
  | _ => exact h

/-! ### A command -/

theorem Effect.inv {i : Instr} {s t : State} (hw : i.wf = true) (he : Effect s i t) (h : s.Inv) : t.Inv := by
  obtain ⟨-, ⟨-, hnum, hden, -, -⟩, channels, -, armed, -, -, hagg, hout, htrip, -⟩ := id h
  cases he with
  | raised e => exact inv_recordError e h
  | supd c x =>
    simp only [Instr.wf, Bool.and_eq_true, immOk_iff] at hw
    exact inv_setChan c (chanUpdate_conserved _ (chan_conserved channels c) hw.2) h
  | sclr c => exact inv_setChan c (clearChannel_conserved _) h
  | tick => exact inv_tickStep h
  | pchk => exact inv_protCheck h
  | pren => exact inv_withProt h (fun _ => rfl) hagg hout htrip
  | pshdArmed r k => exact inv_enterLatch k h
  | oset o b ho =>
    refine inv_withProt h armed hagg (legal_writeBit hout fun _ => ho) ?_
    cases b with
    | false => exact htrip
    | true => exact legal_writeBit (b := false) htrip fun hf => nomatch hf
  | cstep x r u hu =>
    have hinv : u.Inv := inv_compStep hu h
    exact hinv
  | crst => exact inv_withComp h hnum hden List.length_replicate List.length_replicate
  | gstep e =>
    simp only [Instr.wf, immOk_iff] at hw
    exact inv_gdStep h (by omega)
  | gfrc => exact inv_withGd_empty h rfl rfl
  | _ => exact h

/-! ### The step -/

theorem kept_inv : Kept State.Inv where
  transfer _ _ _ _ h := h
  record _ _ h := inv_recordError _ h
  write := inv_writeReg
  command _ _ _ := Effect.inv
  reset _ h := inv_resetWith h.1

/-- Settles O50: every register write, every command, every phase of the tick and reset keeps the whole invariant. -/
theorem everyStepKeepsEveryInvariant : Obligations.EveryStepKeepsEveryInvariant :=
  fun _ _ hs h => kept_inv.step h hs

end Sys2Proof.Machine
end

section
/-!
Who writes what: identification, `TICK_CNT`, the flags, the operand and result registers (10_state.md R22 to R24, R29 to
R32). Each statement is a use of the step principle with the command's frame.
-/

namespace Sys2Proof.Machine

/-! ### The step that executes a command -/

/-- Settles O5: the step hands the decoded command to `exec`. -/
theorem stepExecutesTheDecodedCommand : Obligations.StepExecutesTheDecodedCommand := by
  intro s p w rest i hi hd
  apply step_of_command
  simp only [nextWork, hi, act, cmdAddr, if_true, writeCmd, hd, present, respond]

/-! ### Identification -/

/-- Two fields side by side, as a number. -/
theorem toNat_append_add {m n : Nat} (x : BitVec m) (y : BitVec n) : (x ++ y).toNat = x.toNat * 2 ^ n + y.toNat := by
  rw [BitVec.toNat_append, ← Nat.shiftLeft_add_eq_or_of_lt y.isLt, Nat.shiftLeft_eq]

/-- `PARAM` as a number (R23). -/
theorem toNat_paramWord {p : Params} (h : p.Legal) :
    (paramWord p).toNat = p.nCh + p.nOut * 2 ^ 8 + p.coefMax * 2 ^ 16 + p.sfLog2 * 2 ^ 24 := by
  obtain ⟨⟨-, hch⟩, hout, ⟨-, hcoef⟩, -, -, hsf⟩ := h
  simp only [paramWord, toNat_append_add, BitVec.toNat_ofNat]
  omega

/-- `PARAM2` as a number (R24). -/
theorem toNat_param2Word {p : Params} (h : p.Legal) : (param2Word p).toNat = p.dutyScale + p.midpoint * 2 ^ 16 := by
  obtain ⟨-, -, -, hmid, ⟨-, hscale⟩, -⟩ := h
  simp only [param2Word, toNat_append_add, BitVec.toNat_ofNat]
  omega

theorem kept_params (p : Params) : Kept fun s => s.params = p where
  transfer _ _ _ _ h := h
  record _ _ h := h
  write r v u h := (writeReg_params r v u).trans h
  command _ _ _ _ he h := he.params.trans h
  reset _ h := h

/-- Settles O55: the three words are functions of the parameters, which no step changes. -/
theorem identificationIsConstant : Obligations.IdentificationIsConstant := by
  refine ⟨fun s h => ⟨rfl, toNat_paramWord h, toNat_param2Word h⟩, fun s t h => ?_⟩
  have hp : t.params = s.params := (kept_params s.params).step h rfl
  exact ⟨hp, rfl, congrArg paramWord hp, congrArg param2Word hp⟩

/-! ### The tick counter -/

section Writers

variable {s t : State} {st : Stimulus} {rest : List Stimulus}

theorem step_of_resets (hi : s.inputs = st :: rest) (h : step s = .next t) (hr : st.resets = true) :
    t = resetStep (present st rest s) := by
  have ha : st.action = .reset := of_decide_eq_true hr
  have hn : nextWork s = .done (resetStep (present st rest s)) := by simp only [nextWork, hi, ha, act]
  rw [step_of_done hn] at h
  cases h
  rfl

/-- A tick step runs the tick sequence, from the tick source or from `TICK`; the bus answer is the only difference. -/
theorem step_of_ticks (hi : s.inputs = st :: rest) (h : step s = .next t) (ht : st.ticks = true) :
    ∃ r, t = tickStep (respond r (present st rest s)) := by
  cases ha : st.action with
  | tick =>
    have hn : nextWork s = .done (tickStep (present st rest s)) := by simp only [nextWork, hi, ha, act]
    rw [step_of_done hn] at h
    cases h
    exact ⟨.idle, rfl⟩
  | busWrite a w =>
    simp only [Stimulus.ticks, ha, Bool.and_eq_true, decide_eq_true_eq] at ht
    obtain ⟨rfl, hd⟩ := ht
    have hn : nextWork s = .command .tick (respond (.write false) (present st rest s)) := by
      simp only [nextWork, hi, ha, act, if_true, writeCmd, hd]
    rw [step_of_command hn] at h
    exact ⟨_, complete_next_inv h⟩
  | busRead a => simp [Stimulus.ticks, ha] at ht
  | reset => simp [Stimulus.ticks, ha] at ht

theorem ticks_of_command_tick (h : st.command = some .tick) : st.ticks = true := by
  unfold Stimulus.command at h
  split at h
  · rename_i a w ha
    split at h
    · cases hd : decode w <;> simp_all [Except.toOption, Stimulus.ticks]
    · cases h
  all_goals cases h

/-- Settles O56: a tick step is the tick sequence, which adds 1; `TICK` apart, no command and no write counts. -/
theorem tickCounterCountsTicksOnly : Obligations.TickCounterCountsTicksOnly := by
  intro s t st rest hi h
  refine ⟨fun hr => ?_, fun ht => ?_, fun hr ht => ?_⟩
  · rw [step_of_resets hi h hr]
    rfl
  · obtain ⟨r, rfl⟩ := step_of_ticks hi h ht
    rw [tickStep_eq]
    simp
  · refine agentStep_frame State.tickCnt hi h hr (fun _ _ _ _ => rfl) (fun _ _ => rfl)
      (fun _ v r u _ _ => writeReg_tickCnt r v u) ?command ?tick
    case command =>
      intro i u v hc he
      have hne : i ≠ .tick := by
        rintro rfl
        simp [ticks_of_command_tick hc] at ht
      exact he.tickCnt hne
    case tick =>
      intro u ha
      simp [Stimulus.ticks, ha] at ht

end Writers

/-! ### The flags -/

/-- The three flags of `STATUS`, as bits Z, N, V. -/
def State.flagBits (s : State) : Bool × Bool × Bool := (s.status.z, s.status.n, s.status.v)

theorem flagBits_eq_iff (s t : State) :
    t.flagBits = s.flagBits ↔ t.status.z = s.status.z ∧ t.status.n = s.status.n ∧ t.status.v = s.status.v := by
  simp [State.flagBits]

/-- Settles O57: a register write leaves the flags alone, and so does every command outside the arithmetic family. -/
theorem onlyArithmeticWritesFlags : Obligations.OnlyArithmeticWritesFlags := by
  intro s t st rest hi h hr hcmd
  rw [← flagBits_eq_iff]
  refine agentStep_frame State.flagBits hi h hr (fun _ _ _ _ => rfl) (fun _ _ => rfl) ?write ?command ?tick
  case write =>
    intro _ v r u _ _
    simp [flagBits_eq_iff]
  case command =>
    intro i u v hc he
    exact (flagBits_eq_iff u v).mpr (he.flags (hcmd i hc))
  case tick =>
    intro u _
    exact (flagBits_eq_iff u _).mpr (Effect.tick.flags rfl)

/-! ### Operands and results -/

theorem tableReg_some {bound off : Nat} {f : Nat → Reg} {r : Reg} (h : tableReg bound off f = some r) :
    r = f (off / 4) := by
  unfold tableReg at h
  split at h
  · exact (Option.some.inj h).symm
  · cases h

/-- The regions of R83's map: what a mapped address can name. -/
theorem regAt_cases {p : Params} {a : Addr} {r : Reg} (h : regAt p a = some r) :
    lowReg a.toNat = some r ∨ (∃ i, r = .num i ∨ r = .den i ∨ r = .xh i ∨ r = .yh i) ∨
      (∃ c off, r = channelReg c off) ∨ ∃ c k, r = .buf c k := by
  unfold regAt at h
  split at h
  case isFalse => cases h
  unfold regAtOffset at h
  split at h
  · exact .inl h
  right
  split at h
  · exact .inl ⟨_, .inl (tableReg_some h)⟩
  split at h
  · exact .inl ⟨_, .inr (.inl (tableReg_some h))⟩
  split at h
  · exact .inl ⟨_, .inr (.inr (.inl (tableReg_some h)))⟩
  split at h
  · exact .inl ⟨_, .inr (.inr (.inr (tableReg_some h)))⟩
  right
  split at h
  · cases h
  split at h
  · split at h
    · exact .inl ⟨_, _, (Option.some.inj h).symm⟩
    · cases h
  split at h
  · cases h
  split at h
  · split at h
    · exact .inr ⟨_, _, (Option.some.inj h).symm⟩
    · cases h
  · cases h

theorem channelReg_not_arg (c off : Nat) : channelReg c off ∉ [Reg.arg0, .arg1, .arg2] := by
  unfold channelReg
  split <;> simp

/-- An operand register is named by the low part of the map alone. -/
theorem lowReg_of_regAt_arg {p : Params} {a : Addr} {r : Reg} (h : regAt p a = some r)
    (hr : r ∈ [Reg.arg0, .arg1, .arg2]) : lowReg a.toNat = some r := by
  rcases regAt_cases h with h | ⟨i, rfl | rfl | rfl | rfl⟩ | ⟨c, off, rfl⟩ | ⟨c, k, rfl⟩
  · exact h
  case inr.inr.inl => exact absurd hr (channelReg_not_arg c off)
  all_goals simp at hr

/-- The offsets of the operand registers (R83). -/
theorem lowReg_arg {n : Nat} :
    (lowReg n = some .arg0 → n = 0x020) ∧ (lowReg n = some .arg1 → n = 0x024) ∧ (lowReg n = some .arg2 → n = 0x028) := by
  unfold lowReg
  split <;> simp

/-- Each operand register stands at one address. -/
theorem regAt_arg {p : Params} {a : Addr} :
    (regAt p a = some .arg0 → a = 0x020#13) ∧ (regAt p a = some .arg1 → a = 0x024#13) ∧
      (regAt p a = some .arg2 → a = 0x028#13) := by
  obtain ⟨h0, h1, h2⟩ := @lowReg_arg a.toNat
  exact ⟨fun h => BitVec.eq_of_toNat_eq (h0 (lowReg_of_regAt_arg h (by simp))),
    fun h => BitVec.eq_of_toNat_eq (h1 (lowReg_of_regAt_arg h (by simp))),
    fun h => BitVec.eq_of_toNat_eq (h2 (lowReg_of_regAt_arg h (by simp)))⟩

theorem writeReg_arg0_of_ne {r : Reg} (h : r ≠ .arg0) (v : Word) (s : State) : (writeReg r v s).arg0 = s.arg0 := by
  cases r with
  | arg0 => exact absurd rfl h
  | _ => rfl

theorem writeReg_arg1_of_ne {r : Reg} (h : r ≠ .arg1) (v : Word) (s : State) : (writeReg r v s).arg1 = s.arg1 := by
  cases r with
  | arg1 => exact absurd rfl h
  | _ => rfl

theorem writeReg_arg2_of_ne {r : Reg} (h : r ≠ .arg2) (v : Word) (s : State) : (writeReg r v s).arg2 = s.arg2 := by
  cases r with
  | arg2 => exact absurd rfl h
  | _ => rfl

/-- A field that only the write of one register at one address writes is left alone by every other agent step. -/
theorem hostRegister_frame {α : Type} (F : State → α) (q : Reg) (b : Addr)
    (transfer : ∀ u inputs ports resp, F { u with inputs := inputs, ports := ports, resp := resp } = F u)
    (record : ∀ e u, F (recordError e u) = F u)
    (write : ∀ r v u, r ≠ q → F (writeReg r v u) = F u)
    (place : ∀ p a, regAt p a = some q → a = b)
    (command : ∀ i u v, Effect u i v → F v = F u)
    {s t : State} {st : Stimulus} {rest : List Stimulus} (hi : s.inputs = st :: rest) (h : step s = .next t)
    (hr : st.resets = false) (hw : st.writes b = false) : F t = F s := by
  refine agentStep_frame F hi h hr transfer record ?_ (fun i u v _ => command i u v)
    (fun u _ => command .tick u _ .tick)
  intro a v r u ha hat
  apply write
  rintro rfl
  simp [Stimulus.writes, ha, place _ _ hat] at hw

/-- Settles O58: an operand register is written at its address alone, a result register by its commands alone. -/
theorem operandAndResultWriters : Obligations.OperandAndResultWriters := by
  intro s t st rest hi h hr
  refine ⟨?arg0, ?arg1, ?arg2, fun hcmd => ?result, fun hcmd => ?resultHi⟩
  case arg0 =>
    exact hostRegister_frame State.arg0 .arg0 _ (fun _ _ _ _ => rfl) (fun _ _ => rfl)
      (fun _ v u hne => writeReg_arg0_of_ne hne v u) (fun _ _ => regAt_arg.1) (fun _ _ _ he => he.arg0) hi h hr
  case arg1 =>
    exact hostRegister_frame State.arg1 .arg1 _ (fun _ _ _ _ => rfl) (fun _ _ => rfl)
      (fun _ v u hne => writeReg_arg1_of_ne hne v u) (fun _ _ => regAt_arg.2.1) (fun _ _ _ he => he.arg1) hi h hr
  case arg2 =>
    exact hostRegister_frame State.arg2 .arg2 _ (fun _ _ _ _ => rfl) (fun _ _ => rfl)
      (fun _ v u hne => writeReg_arg2_of_ne hne v u) (fun _ _ => regAt_arg.2.2) (fun _ _ _ he => he.arg2) hi h hr
  case result =>
    exact agentStep_frame State.result hi h hr (fun _ _ _ _ => rfl) (fun _ _ => rfl)
      (fun _ v r u _ _ => writeReg_result r v u) (fun i _ _ hc he => he.result (hcmd i hc))
      (fun _ _ => Effect.tick.result rfl)
  case resultHi =>
    exact agentStep_frame State.resultHi hi h hr (fun _ _ _ _ => rfl) (fun _ _ => rfl)
      (fun _ v r u _ _ => writeReg_resultHi r v u) (fun i _ _ hc he => he.resultHi (hcmd i hc))
      (fun _ _ => Effect.tick.resultHi rfl)

end Sys2Proof.Machine
end

section
/-!
What a register stores and reads as: `CH_CFG`, `CTRL_CFG` and `DUTY` after a write (10_state.md R41, R42, R60, R61), and
every register after reset (R76).
-/

namespace Sys2Proof.Machine

/-! ### A `CH_CFG` write -/

@[simp] theorem writeChCfg_cfg (v : Word) (x : Channel) : (writeChCfg v x).cfg = chCfgOfWord v := by
  unfold writeChCfg
  simp only []
  split <;> rfl

@[simp] theorem writeChCfg_limit (v : Word) (x : Channel) : (writeChCfg v x).limit = x.limit := by
  unfold writeChCfg
  simp only []
  split <;> rfl

/-- A write that leaves the window as it is stores the fields and nothing else (R42). -/
theorem writeChCfg_sameWindow {v : Word} {x : Channel} (h : (chCfgOfWord v).winLog2 = x.cfg.winLog2) :
    writeChCfg v x = { x with cfg := chCfgOfWord v } :=
  if_pos h

/-- A write that changes the window also clears the channel (R42). -/
theorem writeChCfg_newWindow {v : Word} {x : Channel} (h : (chCfgOfWord v).winLog2 ≠ x.cfg.winLog2) :
    writeChCfg v x = clearChannel { x with cfg := chCfgOfWord v } :=
  if_neg h

theorem cmp_bits_ofBits (b : BitVec 2) : (Cmp.ofBits b).bits = b := by
  revert b
  decide

/-- A written window other than 6 and 7 reads back. -/
theorem legalWindow_bits {w : BitVec 3} (h6 : w ≠ 6#3) (h7 : w ≠ 7#3) : BitVec.ofNat 3 (legalWindow w).val = w := by
  revert w
  decide

theorem isTemperature_ite (b : Bool) :
    decide ((if b then ChClass.temperature else ChClass.current) = .temperature) = b := by
  cases b <;> rfl

theorem chCfgOfWord_cls (v : Word) : decide ((chCfgOfWord v).cls = .temperature) = v.getLsbD 7 :=
  isTemperature_ite (v.getLsbD 7)

/-- One bit of a word as a number. -/
theorem toNat_bit_getLsbD {n : Nat} (v : BitVec n) (j : Nat) : (bit (v.getLsbD j)).toNat = v.toNat / 2 ^ j % 2 := by
  rw [bit, BitVec.toNat_ofBool, BitVec.getLsbD, Nat.toNat_testBit]

/-- `CH_CFG` reads back its eight bits when the written window is legal. -/
theorem chCfgWord_ofWord {v : Word} (h6 : v.extractLsb' 1 3 ≠ 6#3) (h7 : v.extractLsb' 1 3 ≠ 7#3) :
    chCfgWord (chCfgOfWord v) = v &&& 0xFF#32 := by
  have hlow : (v &&& 0xFF#32).toNat = v.toNat % 256 := Nat.and_two_pow_sub_one_eq_mod v.toNat 8
  apply BitVec.eq_of_toNat_eq
  rw [hlow, chCfgWord, chCfgOfWord_cls]
  simp only [chCfgOfWord, cmp_bits_ofBits, legalWindow_bits h6 h7, toNat_append_add, toNat_bit_getLsbD,
    BitVec.extractLsb'_toNat, BitVec.toNat_ofNat, Nat.shiftRight_eq_div_pow]
  omega

/-- Settles O46: the written channel is the legalised fields, on a cleared channel exactly when the window changes. -/
theorem chCfgWriteClearsOnAWindowChange : Obligations.ChCfgWriteClearsOnAWindowChange := by
  intro s c v hc
  refine ⟨writeChCfg v (s.chan c), rfl, ?window, ?en, ?ofs, ?cmp, ?cls, writeChCfg_limit _ _, fun h => ?same,
    fun h => ?changed, fun h6 h7 => ?read⟩
  case window | en | ofs =>
    rw [writeChCfg_cfg]
    rfl
  case cmp =>
    rw [writeChCfg_cfg]
    exact cmp_bits_ofBits _
  case cls => rw [writeChCfg_cfg, ← chCfgOfWord_cls, decide_eq_true_eq]
  case same =>
    rw [writeChCfg_cfg] at h
    rw [writeChCfg_sameWindow h]
    exact ⟨rfl, rfl, rfl, rfl⟩
  case changed =>
    rw [writeChCfg_cfg] at h
    rw [writeChCfg_newWindow h]
    exact ⟨clearChannel_slot _, rfl, rfl, rfl⟩
  case read =>
    have hread : readReg (.chCfg c) (writeReg (.chCfg c) v s) = chCfgWord (writeChCfg v (s.chan c)).cfg :=
      congrArg (fun x : Channel => chCfgWord x.cfg) (chan_setChan_same s c _ hc)
    rw [hread, writeChCfg_cfg, chCfgWord_ofWord h6 h7]

/-! ### A `CTRL_CFG` or `DUTY` write -/

theorem mode_bits_ofBits (b : BitVec 2) : (Mode.ofBits b).bits = if b = 3#2 then 0#2 else b := by
  revert b
  decide

/-- A written channel number is stored as the last channel when it does not exist (R60). -/
theorem toNat_legalChannel {p : Params} (h : p.Legal) (v : BitVec 4) :
    (legalChannel p v).toNat = min v.toNat (p.nCh - 1) := by
  obtain ⟨⟨h1, h2⟩, -⟩ := h
  unfold legalChannel
  split
  · omega
  · rw [BitVec.toNat_ofNat]
    omega

/-- Settles O47: the mode, the two channel numbers and `DUTY` are legalised; the other fields are the written bits. -/
theorem controlWritesAreLegalised : Obligations.ControlWritesAreLegalised := by
  intro s v h
  refine ⟨⟨writeCtrlCfg s.params v s.ctrl, rfl, mode_bits_ofBits _, toNat_legalChannel h _, toNat_legalChannel h _,
    rfl, rfl, rfl, rfl, rfl, rfl, rfl⟩, ?_⟩
  exact ⟨(setDuty (sext v) s).ctrl.duty, rfl, sext_setDuty (sext v) s h⟩

/-! ### Registers after reset -/

theorem chan_resetWith (p : Params) (c : Nat) : (State.resetWith p).chan c = Channel.reset := by
  rcases chan_cases (State.resetWith p) c with h | h
  · exact List.eq_of_mem_replicate h
  · exact h

theorem reset_slot (k : Nat) : Channel.reset.slot k = 0#16 := clearChannel_slot Channel.reset k

/-- A coefficient list after reset: 1 first, then 0 (R76). -/
theorem getD_resetCoefs (n i : Nat) :
    (1#16 :: List.replicate n 0#16).getD i 0#16 = if i = 0 then 1#16 else 0#16 := by
  cases i with
  | zero => rfl
  | succ i => simp

/-- The registers of one channel and its buffer read 0 after reset. -/
theorem readReg_channel_resetWith (p : Params) (c : Nat) :
    (∀ r ∈ [Reg.chCfg c, .chLimit c, .chAvg c, .chAcc c, .chCur c], readReg r (State.resetWith p) = 0#32) ∧
      ∀ k, k < 32 → readReg (.buf c k) (State.resetWith p) = 0#32 := by
  have hc := chan_resetWith p c
  refine ⟨?_, fun k _ => ?_⟩
  · simp only [List.forall_mem_cons, List.not_mem_nil, readReg, hc]
    exact ⟨rfl, rfl, rfl, rfl, rfl, fun _ h => h.elim⟩
  · simp only [readReg, hc, reset_slot]
    rfl

/-- The compensator's registers read as the identity after reset, with the output history at `S`. -/
theorem readReg_comp_resetWith {p : Params} (h : p.Legal) {i : Nat} (hi : i < p.coefMax) :
    readReg (.num i) (State.resetWith p) = (if i = 0 then 1#32 else 0#32) ∧
      readReg (.den i) (State.resetWith p) = (if i = 0 then 1#32 else 0#32) ∧
      readReg (.xh i) (State.resetWith p) = 0#32 ∧ (readReg (.yh i) (State.resetWith p)).toNat = p.dutyScale := by
  obtain ⟨-, -, -, -, ⟨-, hscale⟩, -⟩ := h
  have hcoef : (if i = 0 then 1#16 else 0#16).signExtend 32 = if i = 0 then 1#32 else 0#32 := by
    split <;> rfl
  refine ⟨?_, ?_, ?_, ?_⟩
  · simp only [readReg, State.resetWith, Comp.reset, getD_resetCoefs, hcoef]
  · simp only [readReg, State.resetWith, Comp.reset, getD_resetCoefs, hcoef]
  · simp [readReg, State.resetWith, Comp.reset, hi]
  · simp [readReg, State.resetWith, Comp.reset, hi]
    omega

/-- Settles O60: the registers that show no build parameter read as in the default build; the others are computed. -/
theorem resetRegisterValues : Obligations.ResetRegisterValues := by
  intro p h
  obtain ⟨-, -, -, -, ⟨-, hscale⟩, -⟩ := id h
  have hprot : readReg .protCfg (State.resetWith p) = 0#30 ++ bit false ++ bit true := rfl
  have hlen : readReg .compLen (State.resetWith p) = 0#20 ++ 1#4 ++ 0#4 ++ 1#4 := rfl
  refine ⟨?zero, rfl, toNat_paramWord h, toNat_param2Word h, hprot, ?duty, rfl, hlen,
    fun i hi => readReg_comp_resetWith h hi, fun c _ => readReg_channel_resetWith p c⟩
  case zero =>
    intro r hr
    have hsame : readReg r (State.resetWith p) = readReg r State.reset := by fin_cases hr <;> rfl
    rw [hsame]
    fin_cases hr <;> decide
  case duty =>
    simp only [readReg, State.resetWith, Ctrl.reset, BitVec.toNat_ofNat]
    omega

end Sys2Proof.Machine
end

section
/-!
The register map (20_memory.md R83): the offset of each register, the regions of the map, and from them that an address
names one register at most, which aligned addresses name none, and what each word of the map names.
-/

namespace Sys2Proof.Machine

/-! ### Where a register stands -/

/-- The offset column of R83's table; `offset_of_regAt` ties it to the model's map. -/
def Reg.offset : Reg → Nat
  | .id => 0x000
  | .param => 0x004
  | .param2 => 0x008
  | .cmd => 0x00C
  | .status => 0x010
  | .events => 0x014
  | .irqEn => 0x018
  | .tickCnt => 0x01C
  | .arg0 => 0x020
  | .arg1 => 0x024
  | .arg2 => 0x028
  | .result => 0x02C
  | .resultHi => 0x030
  | .protCfg => 0x040
  | .protStat => 0x044
  | .aggMask => 0x048
  | .aggLimit => 0x04C
  | .outEn => 0x050
  | .trip => 0x054
  | .ctrlCfg => 0x060
  | .duty => 0x064
  | .vref => 0x068
  | .vrefEff => 0x06C
  | .droopScale => 0x070
  | .gdSettle => 0x074
  | .gdAvg => 0x078
  | .gdCnt => 0x07C
  | .gdAcc => 0x080
  | .gdStat => 0x084
  | .compLen => 0x088
  | .num i => 0x0A0 + 4 * i
  | .den i => 0x0C0 + 4 * i
  | .xh j => 0x0E0 + 4 * j
  | .yh j => 0x100 + 4 * j
  | .chCfg c => 0x200 + 0x20 * c
  | .chLimit c => 0x200 + 0x20 * c + 0x04
  | .chAvg c => 0x200 + 0x20 * c + 0x08
  | .chAcc c => 0x200 + 0x20 * c + 0x0C
  | .chCur c => 0x200 + 0x20 * c + 0x10
  | .chReserved c k => 0x200 + 0x20 * c + 4 * k
  | .buf c k => 0x1000 + 0x80 * c + 4 * k

/-! ### The regions of the map -/

section Regions

variable {p : Params} {n : Nat}

theorem regAtOffset_low (h : n < 0x0A0) : regAtOffset p n = lowReg n := if_pos h

theorem regAtOffset_num (h1 : 0x0A0 ≤ n) (h2 : n < 0x0C0) :
    regAtOffset p n = tableReg p.coefMax (n - 0x0A0) .num := by
  rw [regAtOffset, if_neg (by omega), if_pos h2]

theorem regAtOffset_den (h1 : 0x0C0 ≤ n) (h2 : n < 0x0E0) :
    regAtOffset p n = tableReg p.coefMax (n - 0x0C0) .den := by
  rw [regAtOffset, if_neg (by omega), if_neg (by omega), if_pos h2]

theorem regAtOffset_xh (h1 : 0x0E0 ≤ n) (h2 : n < 0x100) :
    regAtOffset p n = tableReg p.coefMax (n - 0x0E0) .xh := by
  rw [regAtOffset, if_neg (by omega), if_neg (by omega), if_neg (by omega), if_pos h2]

theorem regAtOffset_yh (h1 : 0x100 ≤ n) (h2 : n < 0x120) :
    regAtOffset p n = tableReg p.coefMax (n - 0x100) .yh := by
  rw [regAtOffset, if_neg (by omega), if_neg (by omega), if_neg (by omega), if_neg (by omega), if_pos h2]

theorem regAtOffset_channel (h1 : 0x200 ≤ n) (h2 : n < 0x400) :
    regAtOffset p n = if (n - 0x200) / 0x20 < p.nCh then
      some (channelReg ((n - 0x200) / 0x20) ((n - 0x200) % 0x20)) else none := by
  rw [regAtOffset, if_neg (by omega), if_neg (by omega), if_neg (by omega), if_neg (by omega), if_neg (by omega),
    if_neg (by omega), if_pos h2]

theorem regAtOffset_buf (h1 : 0x1000 ≤ n) (h2 : n < 0x1800) :
    regAtOffset p n = if (n - 0x1000) / 0x80 < p.nCh then
      some (.buf ((n - 0x1000) / 0x80) ((n - 0x1000) % 0x80 / 4)) else none := by
  rw [regAtOffset, if_neg (by omega), if_neg (by omega), if_neg (by omega), if_neg (by omega), if_neg (by omega),
    if_neg (by omega), if_neg (by omega), if_neg (by omega), if_pos h2]

theorem regAtOffset_gap (h : 0x120 ≤ n ∧ n < 0x200 ∨ 0x400 ≤ n ∧ n < 0x1000 ∨ 0x1800 ≤ n) : regAtOffset p n = none := by
  rw [regAtOffset, if_neg (by omega), if_neg (by omega), if_neg (by omega), if_neg (by omega), if_neg (by omega)]
  rcases h with h | h | h
  · rw [if_pos (by omega)]
  · rw [if_neg (by omega), if_neg (by omega), if_pos (by omega)]
  · rw [if_neg (by omega), if_neg (by omega), if_neg (by omega), if_neg (by omega)]

/-- Every offset lies in one region of the map. -/
theorem region_cases (n : Nat) :
    n < 0x0A0 ∨ (0x0A0 ≤ n ∧ n < 0x0C0) ∨ (0x0C0 ≤ n ∧ n < 0x0E0) ∨ (0x0E0 ≤ n ∧ n < 0x100) ∨
      (0x100 ≤ n ∧ n < 0x120) ∨ (0x200 ≤ n ∧ n < 0x400) ∨ (0x1000 ≤ n ∧ n < 0x1800) ∨
      (0x120 ≤ n ∧ n < 0x200 ∨ 0x400 ≤ n ∧ n < 0x1000 ∨ 0x1800 ≤ n) := by
  omega

/-! ### From an address to its register -/

theorem offset_of_lowReg {r : Reg} (h : lowReg n = some r) : r.offset = n := by
  unfold lowReg at h
  split at h <;> cases h <;> rfl

/-- The eight words of a channel's block are its five registers and the three reserved words. -/
theorem offset_channelReg (c : Nat) {off : Nat} (h : off % 4 = 0) :
    (channelReg c off).offset = 0x200 + 0x20 * c + off := by
  unfold channelReg
  split
  case h_6 => simp only [Reg.offset]; omega
  all_goals rfl

/-- An aligned address names only the register whose offset it is. -/
theorem offset_of_regAtOffset {r : Reg} (ha : n % 4 = 0) (h : regAtOffset p n = some r) : r.offset = n := by
  have table {b k : Nat} {f : Nat → Reg} (hf : ∀ i, (f i).offset = k + 4 * i) (hk : k % 4 = 0) (hn : k ≤ n)
      (h : tableReg b (n - k) f = some r) : r.offset = n := by
    rw [tableReg_some h, hf]
    omega
  rcases region_cases n with hr | ⟨h1, h2⟩ | ⟨h1, h2⟩ | ⟨h1, h2⟩ | ⟨h1, h2⟩ | ⟨h1, h2⟩ | ⟨h1, h2⟩ | hr
  · exact offset_of_lowReg (regAtOffset_low hr ▸ h)
  · exact table (fun _ => rfl) rfl h1 (regAtOffset_num h1 h2 ▸ h)
  · exact table (fun _ => rfl) rfl h1 (regAtOffset_den h1 h2 ▸ h)
  · exact table (fun _ => rfl) rfl h1 (regAtOffset_xh h1 h2 ▸ h)
  · exact table (fun _ => rfl) rfl h1 (regAtOffset_yh h1 h2 ▸ h)
  · rw [regAtOffset_channel h1 h2, Option.ite_none_right_eq_some] at h
    obtain ⟨-, e⟩ := h
    rw [← Option.some.inj e, offset_channelReg _ (by omega)]
    omega
  · rw [regAtOffset_buf h1 h2, Option.ite_none_right_eq_some] at h
    obtain ⟨-, e⟩ := h
    rw [← Option.some.inj e, Reg.offset]
    omega
  · rw [regAtOffset_gap hr] at h
    cases h

theorem tableReg_eq_none_iff {bound off : Nat} {f : Nat → Reg} : tableReg bound off f = none ↔ bound ≤ off / 4 := by
  simp [tableReg]

/-- The gaps among the single registers. -/
theorem lowReg_eq_none_iff (h : n < 0x0A0) (ha : n % 4 = 0) :
    lowReg n = none ↔ (0x034 ≤ n ∧ n < 0x040) ∨ (0x058 ≤ n ∧ n < 0x060) ∨ 0x08C ≤ n := by
  have words : ∀ k < 40, lowReg (4 * k) = none ↔
      (0x034 ≤ 4 * k ∧ 4 * k < 0x040) ∨ (0x058 ≤ 4 * k ∧ 4 * k < 0x060) ∨ 0x08C ≤ 4 * k := by decide
  have e : n = 4 * (n / 4) := by omega
  rw [e]
  exact words (n / 4) (by omega)

/-- The aligned offsets that name no register: the gaps, and the indices beyond the parameters (R83). -/
theorem regAtOffset_eq_none_iff (hp : p.Legal) (ha : n % 4 = 0) :
    regAtOffset p n = none ↔
      (0x034 ≤ n ∧ n < 0x040) ∨ (0x058 ≤ n ∧ n < 0x060) ∨ (0x08C ≤ n ∧ n < 0x0A0) ∨
        (0x0A0 + 4 * p.coefMax ≤ n ∧ n < 0x0C0) ∨ (0x0C0 + 4 * p.coefMax ≤ n ∧ n < 0x0E0) ∨
        (0x0E0 + 4 * p.coefMax ≤ n ∧ n < 0x100) ∨ (0x100 + 4 * p.coefMax ≤ n ∧ n < 0x200) ∨
        (0x200 + 0x20 * p.nCh ≤ n ∧ n < 0x1000) ∨ 0x1000 + 0x80 * p.nCh ≤ n := by
  obtain ⟨⟨-, hch⟩, -, ⟨-, hcoef⟩, -⟩ := hp
  rcases region_cases n with hr | ⟨h1, h2⟩ | ⟨h1, h2⟩ | ⟨h1, h2⟩ | ⟨h1, h2⟩ | ⟨h1, h2⟩ | ⟨h1, h2⟩ | hr
  · rw [regAtOffset_low hr, lowReg_eq_none_iff hr ha]
    omega
  · rw [regAtOffset_num h1 h2, tableReg_eq_none_iff]
    omega
  · rw [regAtOffset_den h1 h2, tableReg_eq_none_iff]
    omega
  · rw [regAtOffset_xh h1 h2, tableReg_eq_none_iff]
    omega
  · rw [regAtOffset_yh h1 h2, tableReg_eq_none_iff]
    omega
  · rw [regAtOffset_channel h1 h2, ite_eq_right_iff]
    simp only [reduceCtorEq, imp_false]
    omega
  · rw [regAtOffset_buf h1 h2, ite_eq_right_iff]
    simp only [reduceCtorEq, imp_false]
    omega
  · rw [regAtOffset_gap hr]
    simp only [true_iff]
    omega

end Regions

/-! ### The map -/

theorem regAt_of_aligned (p : Params) {a : Addr} (ha : a.toNat % 4 = 0) : regAt p a = regAtOffset p a.toNat :=
  if_pos ha

/-- A misaligned address names no register (R81). -/
theorem regAt_of_misaligned (p : Params) {a : Addr} (ha : a.toNat % 4 ≠ 0) : regAt p a = none :=
  if_neg ha

/-- An address names only the register whose offset it is. -/
theorem offset_of_regAt {p : Params} {a : Addr} {r : Reg} (h : regAt p a = some r) : r.offset = a.toNat := by
  by_cases ha : a.toNat % 4 = 0
  · exact offset_of_regAtOffset ha (regAt_of_aligned p ha ▸ h)
  · rw [regAt_of_misaligned p ha] at h
    cases h

/-- The map at an offset that is aligned and in the address space. -/
theorem regAt_ofNat (p : Params) {n : Nat} (hn : n < 0x2000) (ha : n % 4 = 0) :
    regAt p (BitVec.ofNat 13 n) = regAtOffset p n := by
  have e : (BitVec.ofNat 13 n).toNat = n := Nat.mod_eq_of_lt hn
  rw [regAt_of_aligned p (e.symm ▸ ha), e]

/-! ### The words of a table, a channel's block and a buffer -/

section Words

variable {p : Params} {i c k : Nat}

theorem tableReg_word {bound : Nat} {f : Nat → Reg} (h : i < bound) : tableReg bound (4 * i) f = some (f i) := by
  rw [tableReg, Nat.mul_div_cancel_left i (by decide), if_pos h]

/-- Entry `i` of the two coefficient lists and of the two histories (R71, R72). -/
theorem regAt_table_word (hp : p.Legal) (hi : i < p.coefMax) :
    regAt p (BitVec.ofNat 13 (0x0A0 + 4 * i)) = some (.num i) ∧
      regAt p (BitVec.ofNat 13 (0x0C0 + 4 * i)) = some (.den i) ∧
      regAt p (BitVec.ofNat 13 (0x0E0 + 4 * i)) = some (.xh i) ∧
      regAt p (BitVec.ofNat 13 (0x100 + 4 * i)) = some (.yh i) := by
  obtain ⟨-, -, ⟨-, hcoef⟩, -⟩ := hp
  have place {k : Nat} (hk : k % 4 = 0) (h : k ≤ 0x100) :
      regAt p (BitVec.ofNat 13 (k + 4 * i)) = regAtOffset p (k + 4 * i) := regAt_ofNat p (by omega) (by omega)
  refine ⟨?_, ?_, ?_, ?_⟩
  · rw [place rfl (by decide), regAtOffset_num (by omega) (by omega), Nat.add_sub_cancel_left, tableReg_word hi]
  · rw [place rfl (by decide), regAtOffset_den (by omega) (by omega), Nat.add_sub_cancel_left, tableReg_word hi]
  · rw [place rfl (by decide), regAtOffset_xh (by omega) (by omega), Nat.add_sub_cancel_left, tableReg_word hi]
  · rw [place rfl (by decide), regAtOffset_yh (by omega) (by omega), Nat.add_sub_cancel_left, tableReg_word hi]

/-- Word `k` of channel `c`'s block. -/
theorem regAt_channel_word (hp : p.Legal) (hc : c < p.nCh) (hk : k < 8) :
    regAt p (BitVec.ofNat 13 (0x200 + 0x20 * c + 4 * k)) = some (channelReg c (4 * k)) := by
  obtain ⟨⟨-, hch⟩, -⟩ := hp
  have hdiv : (0x200 + 0x20 * c + 4 * k - 0x200) / 0x20 = c := by omega
  have hmod : (0x200 + 0x20 * c + 4 * k - 0x200) % 0x20 = 4 * k := by omega
  rw [regAt_ofNat p (by omega) (by omega), regAtOffset_channel (by omega) (by omega), hdiv, hmod, if_pos hc]

/-- Slot `k` of channel `c`'s buffer (R45). -/
theorem regAt_buf_word (hp : p.Legal) (hc : c < p.nCh) (hk : k < 32) :
    regAt p (BitVec.ofNat 13 (0x1000 + 0x80 * c + 4 * k)) = some (.buf c k) := by
  obtain ⟨⟨-, hch⟩, -⟩ := hp
  have hdiv : (0x1000 + 0x80 * c + 4 * k - 0x1000) / 0x80 = c := by omega
  have hmod : (0x1000 + 0x80 * c + 4 * k - 0x1000) % 0x80 / 4 = k := by omega
  rw [regAt_ofNat p (by omega) (by omega), regAtOffset_buf (by omega) (by omega), hdiv, hmod, if_pos hc]

end Words

/-- Settles O43: an address is the offset of the register it names, the aligned addresses that name none are found region
by region, and so is each word of the map. -/
theorem addressMapIsExact : Obligations.AddressMapIsExact := by
  refine ⟨fun p a b r ha hb => ?unique, fun p a hp ha => ?gaps, fun p hp => ⟨?single, fun i hi => ?table,
    fun c hc => ⟨?block, fun k hk => regAt_buf_word hp hc hk⟩⟩⟩
  case unique => exact BitVec.eq_of_toNat_eq ((offset_of_regAt ha).symm.trans (offset_of_regAt hb))
  case gaps => rw [regAt_of_aligned p ha, regAtOffset_eq_none_iff hp ha]
  case single =>
    intro e he
    fin_cases he <;> rfl
  case table =>
    obtain ⟨hnum, hden, hxh, hyh⟩ := regAt_table_word hp hi
    simp only [List.forall_mem_cons, List.not_mem_nil]
    exact ⟨hnum, hden, hxh, hyh, fun _ h => h.elim⟩
  case block =>
    have word (k : Nat) (hk : k < 8) := regAt_channel_word hp hc hk
    simp only [List.forall_mem_cons, List.not_mem_nil]
    exact ⟨word 0 (by decide), word 1 (by decide), word 2 (by decide), word 3 (by decide), word 4 (by decide),
      word 5 (by decide), word 6 (by decide), word 7 (by decide), fun _ h => h.elim⟩

end Sys2Proof.Machine
end

section
/-!
The steps of the register bus: what the step of a `BusRead` or a `BusWrite` is, mapped or not (20_memory.md R85, R88,
R89), and which writes change nothing (R86, R87) or clear bits (10_state.md R26, R27, R55).
-/

namespace Sys2Proof.Machine

/-! ### One bus step -/

section BusSteps

variable {s : State} {p : Ports} {a : Addr} {v : Word} {rest : List Stimulus} {r : Reg}

theorem nextWork_of_inputs {st : Stimulus} (hi : s.inputs = st :: rest) :
    nextWork s = act st.action (present st rest s) := by
  simp only [nextWork, hi]

theorem step_of_busRead (hi : s.inputs = { ports := p, action := .busRead a } :: rest) :
    step s = .next (busRead a (present { ports := p, action := .busRead a } rest s)) :=
  step_of_done (nextWork_of_inputs hi)

theorem step_of_busWrite (hi : s.inputs = { ports := p, action := .busWrite a v } :: rest) (ha : a ≠ cmdAddr) :
    step s = .next (busWrite a v (present { ports := p, action := .busWrite a v } rest s)) :=
  step_of_done ((nextWork_of_inputs hi).trans (if_neg ha))

/-- The step of a `BusRead` of a mapped address: the answer, and nothing else (R88). -/
theorem step_busRead_mapped (hi : s.inputs = { ports := p, action := .busRead a } :: rest)
    (h : regAt s.params a = some r) :
    step s = .next { s with inputs := rest, ports := p, resp := .read (readReg r s) false } := by
  rw [step_of_busRead hi]
  rcases busRead_cases a (present { ports := p, action := .busRead a } rest s) with ⟨q, hq, e⟩ | ⟨hq, -⟩
  · obtain rfl : q = r := Option.some.inj (hq.symm.trans h)
    rw [e]
    rfl
  · cases hq.symm.trans h

/-- The step of a `BusRead` that is a bus error (R85). -/
theorem step_busRead_unmapped (hi : s.inputs = { ports := p, action := .busRead a } :: rest)
    (h : regAt s.params a = none) :
    step s = .next (recordError .busError { s with inputs := rest, ports := p, resp := .read 0#32 true }) := by
  rw [step_of_busRead hi]
  rcases busRead_cases a (present { ports := p, action := .busRead a } rest s) with ⟨q, hq, -⟩ | ⟨-, e⟩
  · cases h.symm.trans hq
  · rw [e]
    rfl

/-- Writing a register and answering the transfer do not depend on each other. -/
theorem respond_writeReg (b : BusResp) (r : Reg) (v : Word) (s : State) :
    respond b (writeReg r v s) = writeReg r v (respond b s) := by
  cases r <;> rfl

/-- The step of a `BusWrite` to a mapped address other than `CMD` is the write of the register there (R83, R89). -/
theorem step_busWrite_mapped (hi : s.inputs = { ports := p, action := .busWrite a v } :: rest) (ha : a ≠ cmdAddr)
    (h : regAt s.params a = some r) :
    step s = .next (writeReg r v { s with inputs := rest, ports := p, resp := .write false }) := by
  rw [step_of_busWrite hi ha]
  rcases busWrite_cases a v (present { ports := p, action := .busWrite a v } rest s) with ⟨q, hq, e⟩ | ⟨hq, -⟩
  · obtain rfl : q = r := Option.some.inj (hq.symm.trans h)
    rw [e, respond_writeReg]
    rfl
  · cases hq.symm.trans h

/-- Only `CMD` stands at its address, whatever the parameters are (R25). -/
theorem regAt_cmdAddr (p : Params) : regAt p cmdAddr = some .cmd := rfl

theorem ne_cmdAddr_of_regAt {p : Params} {o : Option Reg} (h : regAt p a = o) (ho : o ≠ some .cmd) : a ≠ cmdAddr := by
  rintro rfl
  exact ho (h.symm.trans (regAt_cmdAddr p))

/-- The step of a `BusWrite` that is a bus error: no register is written and no command runs (R85). -/
theorem step_busWrite_unmapped (hi : s.inputs = { ports := p, action := .busWrite a v } :: rest)
    (h : regAt s.params a = none) :
    step s = .next (recordError .busError { s with inputs := rest, ports := p, resp := .write true }) := by
  rw [step_of_busWrite hi (ne_cmdAddr_of_regAt h nofun)]
  rcases busWrite_cases a v (present { ports := p, action := .busWrite a v } rest s) with ⟨q, hq, -⟩ | ⟨-, e⟩
  · cases h.symm.trans hq
  · rw [e]
    rfl

end BusSteps

/-- Settles O41: a misaligned address is off the map, and a step off the map is the recording of code 5. -/
theorem busErrorIsRecordedAndAnswered : Obligations.BusErrorIsRecordedAndAnswered :=
  ⟨fun p _ ha => regAt_of_misaligned p ha, fun _ _ _ _ hi h => step_busRead_unmapped hi h,
    fun _ _ _ _ _ hi h => step_busWrite_unmapped hi h⟩

/-! ### Writes that change nothing -/

/-- The read-only registers of R86 and the reserved words of R87. -/
def Reg.ReadOnly (r : Reg) : Prop :=
  r ∈ [.id, .param, .param2, .tickCnt, .result, .resultHi, .protStat, .vrefEff, .gdCnt, .gdAcc, .gdStat] ∨
    (∃ j, r = .xh j) ∨ (∃ j, r = .yh j) ∨ (∃ c, r = .chAvg c) ∨ (∃ c, r = .chAcc c) ∨ (∃ c, r = .chCur c) ∨
    (∃ c k, r = .chReserved c k) ∨ ∃ c k, r = .buf c k

theorem Reg.ReadOnly.writeReg_eq {r : Reg} (h : r.ReadOnly) (v : Word) (s : State) : writeReg r v s = s := by
  rcases h with h | ⟨j, rfl⟩ | ⟨j, rfl⟩ | ⟨c, rfl⟩ | ⟨c, rfl⟩ | ⟨c, rfl⟩ | ⟨c, k, rfl⟩ | ⟨c, k, rfl⟩
  case inl => fin_cases h <;> rfl
  all_goals rfl

/-- `CMD` is write-only: its write executes a command (R25). -/
theorem not_readOnly_cmd : ¬Reg.ReadOnly .cmd := by
  simp [Reg.ReadOnly]

/-- Settles O42: the step is the write of the register, which changes nothing; `CMD` is mapped and reads 0. -/
theorem readOnlyWritesAreIgnored : Obligations.ReadOnlyWritesAreIgnored := by
  refine ⟨fun s p a v rest r hi hr hro => ?_, fun s p rest hi => step_busRead_mapped hi (regAt_cmdAddr s.params)⟩
  have hcmd : some r ≠ some .cmd := fun e => not_readOnly_cmd (Option.some.inj e ▸ hro)
  rw [step_busWrite_mapped hi (ne_cmdAddr_of_regAt hr hcmd) hr, Reg.ReadOnly.writeReg_eq hro]

/-! ### Writes that clear bits -/

/-- A masked bit stays exactly when it is not written as 1. -/
theorem getLsbD_and_not_extract {n k : Nat} (m : BitVec n) (v : Word) (hk : k < n) :
    (m &&& ~~~(v.extractLsb' 0 n)).getLsbD k = (m.getLsbD k && !v.getLsbD k) := by
  simp [hk]

/-- Settles O45: the three writes mask their register with the complement of the written bits. -/
theorem w1cWritesClearTheBitsWrittenAsOne : Obligations.W1cWritesClearTheBitsWrittenAsOne := by
  intro s v
  exact ⟨⟨_, _, rfl, fun k hk => getLsbD_and_not_extract _ v hk, fun h => if_pos h, fun h => if_neg h⟩,
    ⟨_, rfl, fun k hk => getLsbD_and_not_extract _ v hk⟩,
    ⟨_, _, rfl, fun k hk => getLsbD_and_not_extract _ v hk, rfl⟩⟩

end Sys2Proof.Machine
end

section
/-!
The words that registers read as, as numbers (20_memory.md R88): each field at its bits, reserved bits 0, a signed field
extended to 32 bits.
-/

namespace Sys2Proof.Machine

/-! ### Fields as numbers -/

@[simp] theorem toNat_bit (b : Bool) : (bit b).toNat = b.toNat := BitVec.toNat_ofBool b

theorem toNat_decide (q : Prop) [Decidable q] : (decide q).toNat = if q then 1 else 0 := Bool.cond_decide q 1 0

theorem toNat_cmp_bits (k : Cmp) :
    k.bits.toNat = if k = .above then 1 else if k = .band then 2 else if k = .below then 3 else 0 := by
  cases k <;> rfl

theorem toNat_mode_bits (m : Mode) : m.bits.toNat = if m = .comp then 1 else if m = .gd then 2 else 0 := by
  cases m <;> rfl

/-- A signed 16-bit entry reads as its value. -/
theorem toInt_signExtend_half (x : Half) : (x.signExtend 32).toInt = x.toInt :=
  BitVec.toInt_signExtend_of_le (by decide)

/-! ### Words of several fields -/

section Words

variable (s : State)

theorem toNat_statusWord :
    (statusWord s).toNat = s.status.err.toNat + s.status.lastErr.toNat * 2 ^ 8 + s.status.z.toNat * 2 ^ 16 +
      s.status.n.toNat * 2 ^ 17 + s.status.v.toNat * 2 ^ 18 + s.prot.latched.toNat * 2 ^ 24 := by
  simp only [statusWord, toNat_append_add, toNat_bit, BitVec.toNat_ofNat]
  omega

theorem toNat_ctrlCfgWord (k : Ctrl) :
    (ctrlCfgWord k).toNat = (if k.mode = .comp then 1 else if k.mode = .gd then 2 else 0) +
      k.fbCh.toNat * 2 ^ 4 + k.droopEn.toNat * 2 ^ 8 + k.droopAdd.toNat * 2 ^ 9 +
      k.droopCh.toNat * 2 ^ 12 + k.pwmEn.toNat * 2 ^ 16 := by
  simp only [ctrlCfgWord, toNat_append_add, toNat_bit, toNat_mode_bits, BitVec.toNat_ofNat]
  omega

theorem toNat_chCfgWord (k : ChCfg) :
    (chCfgWord k).toNat = k.en.toNat + k.winLog2.val * 2 + k.ofs.toNat * 2 ^ 4 +
      (if k.cmp = .above then 1 else if k.cmp = .band then 2 else if k.cmp = .below then 3 else 0) * 2 ^ 5 +
      (if k.cls = .temperature then 1 else 0) * 2 ^ 7 := by
  have hwin : (BitVec.ofNat 3 k.winLog2.val).toNat = k.winLog2.val := by
    have := k.winLog2.isLt
    rw [BitVec.toNat_ofNat]
    omega
  simp only [chCfgWord, toNat_append_add, toNat_bit, toNat_decide, toNat_cmp_bits, hwin, BitVec.toNat_ofNat]
  omega

theorem toNat_read_protCfg :
    (readReg .protCfg s).toNat = s.prot.en.toNat + (if s.prot.policy = .tripping then 2 else 0) := by
  simp only [readReg, toNat_append_add, toNat_bit, toNat_decide, BitVec.toNat_ofNat]
  split <;> omega

theorem toNat_read_protStat : (readReg .protStat s).toNat = s.prot.latched.toNat + s.prot.reason.toNat * 2 ^ 8 := by
  simp only [readReg, toNat_append_add, toNat_bit, BitVec.toNat_ofNat]
  omega

theorem toNat_read_trip : (readReg .trip s).toNat = s.prot.trip.toNat + s.prot.tripAgg.toNat * 2 ^ 31 := by
  simp only [readReg, toNat_append_add, toNat_bit, BitVec.toNat_ofNat]
  omega

theorem toNat_read_gdCnt : (readReg .gdCnt s).toNat = s.gd.setCnt.toNat + s.gd.avgCnt.toNat * 2 ^ 16 := by
  simp only [readReg, toNat_append_add]
  omega

theorem toNat_read_gdStat : (readReg .gdStat s).toNat = s.gd.force.toNat := by
  simp only [readReg, toNat_append_add, toNat_bit, BitVec.toNat_ofNat]
  omega

theorem toNat_read_compLen : (readReg .compLen s).toNat = s.comp.numLen.toNat + s.comp.denLen.toNat * 2 ^ 8 := by
  simp only [readReg, toNat_append_add, BitVec.toNat_ofNat]
  omega

end Words

/-- Settles O40: the step is the answer alone, and each word is its fields at their bits. -/
theorem busReadHasNoSideEffect : Obligations.BusReadHasNoSideEffect := by
  refine ⟨fun s p a rest r hi hr => step_busRead_mapped hi hr, fun s => ?_⟩
  have narrow {n : Nat} (x : BitVec n) (h : n ≤ 32) : (x.setWidth 32).toNat = x.toNat := BitVec.toNat_setWidth_of_le h
  exact ⟨rfl, toNat_statusWord s, narrow _ (by decide), narrow _ (by decide), rfl, rfl, rfl, rfl, rfl, rfl,
    toNat_read_protCfg s, toNat_read_protStat s, narrow _ (by decide), rfl, narrow _ (by decide), toNat_read_trip s,
    toNat_ctrlCfgWord s.ctrl, rfl, rfl, rfl, rfl, narrow _ (by decide), narrow _ (by decide), toNat_read_gdCnt s, rfl,
    toNat_read_gdStat s, toNat_read_compLen s,
    fun i => ⟨toInt_signExtend_half _, toInt_signExtend_half _, toInt_signExtend_half _, rfl⟩,
    fun c => ⟨toNat_chCfgWord _, rfl, rfl, rfl, narrow _ (by decide), fun k => ⟨rfl, toInt_signExtend_half _⟩⟩⟩

end Sys2Proof.Machine
end

section
/-!
Read-back (20_memory.md R87, R89): a read-write register reads as it was written, reserved bits as 0, and the write of one
register changes the value of no other.
-/

namespace Sys2Proof.Machine

/-! ### Masked words -/

/-- The low `n` bits of a word are those its mask of `n` ones keeps. -/
theorem setWidth_extract_low (v : Word) (n : Nat) :
    (v.extractLsb' 0 n).setWidth 32 = v &&& BitVec.ofNat 32 (2 ^ n - 1) := by
  apply BitVec.eq_of_getLsbD_eq
  intro j hj
  rw [BitVec.getLsbD_and, BitVec.getLsbD_ofNat, Nat.testBit_two_pow_sub_one]
  simp [hj, Bool.and_comm]

/-- A register of one bit per channel or output reads back its existing bits. -/
theorem setWidth_and_lowBits (v : Word) {n : Nat} (h : n ≤ 16) :
    (v.extractLsb' 0 16 &&& lowBits n).setWidth 32 = v &&& BitVec.ofNat 32 (2 ^ n - 1) := by
  apply BitVec.eq_of_getLsbD_eq
  intro j hj
  rw [BitVec.getLsbD_and, BitVec.getLsbD_ofNat, Nat.testBit_two_pow_sub_one, BitVec.getLsbD_setWidth]
  by_cases hj16 : j < 16
  · rw [BitVec.getLsbD_and, getLsbD_lowBits n j hj16]
    simp [hj, hj16]
  · have hn : ¬j < n := by omega
    simp [hj16, hn]

/-! ### What a register reads after its own write -/

section ReadBack

variable (v : Word) (s : State)

theorem isTripping_ite (b : Bool) : decide ((if b then Policy.tripping else .latching) = .tripping) = b := by
  cases b <;> rfl

theorem readBack_protCfg : readReg .protCfg (writeReg .protCfg v s) = v &&& 0x3#32 := by
  have hread : readReg .protCfg (writeReg .protCfg v s) = 0#30 ++ bit (v.getLsbD 1) ++ bit (v.getLsbD 0) :=
    congrArg (fun b => 0#30 ++ bit b ++ bit (v.getLsbD 0)) (isTripping_ite (v.getLsbD 1))
  have hmask : (v &&& 0x3#32).toNat = v.toNat % 4 := Nat.and_two_pow_sub_one_eq_mod v.toNat 2
  apply BitVec.eq_of_toNat_eq
  rw [hread, hmask]
  simp only [toNat_append_add, toNat_bit_getLsbD, BitVec.toNat_ofNat]
  omega

/-- The two lengths stand at bits 3:0 and 11:8 (R70). -/
theorem readBack_compLen : readReg .compLen (writeReg .compLen v s) = v &&& 0xF0F#32 := by
  have hmask : ∀ j < 32, (0xF0F#32).getLsbD j = (decide (j < 4) || decide (8 ≤ j ∧ j < 12)) := by decide
  apply BitVec.eq_of_getLsbD_eq
  intro j hj
  rw [BitVec.getLsbD_and, hmask j hj]
  simp only [readReg, writeReg, BitVec.getLsbD_append, BitVec.getLsbD_extractLsb', BitVec.getLsbD_zero]
  by_cases h4 : j < 4
  · simp [h4]
  by_cases h8 : j < 8
  · have hgap : j - 4 < 4 ∧ ¬8 ≤ j := by omega
    simp [h4, hgap]
  by_cases h12 : j < 12
  · have hden : ¬j - 4 < 4 ∧ j - 4 - 4 < 4 ∧ 8 + (j - 4 - 4) = j ∧ 8 ≤ j := by omega
    simp [h4, h12, hden]
  · have hhigh : ¬j - 4 - 4 < 4 := by omega
    simp [h4, h12, hhigh]

/-- A coefficient that exists reads back the low half of the word, sign-extended (R71). -/
theorem readBack_coefficient {l : List Half} {i : Nat} (h : i < l.length) :
    ((l.set i (v.extractLsb' 0 16)).getD i 0#16).signExtend 32 = (v.setWidth 16).signExtend 32 := by
  rw [List.getD_eq_getElem?_getD, List.getElem?_set_self h, BitVec.setWidth_eq_extractLsb' (by decide)]
  rfl

end ReadBack

/-! ### What a write leaves as it reads -/

/-- A part of channels that the new entry shares with the old one is the same in every channel. -/
theorem chan_setChan_part {α : Type} (F : Channel → α) {s : State} {c : Nat} {x : Channel} (h : F x = F (s.chan c))
    (d : Nat) : F ((s.setChan c x).chan d) = F (s.chan d) := by
  by_cases e : c = d
  · subst e
    by_cases hc : c < s.ch.length
    · rw [chan_setChan_same s c x hc, h]
    · rw [State.setChan, List.set_eq_of_length_le (Nat.le_of_not_lt hc)]
  · rw [chan_setChan_ne s c d x e]

/-- The write of a limit is seen in `CH_LIMIT` of its channel only. -/
theorem readReg_writeReg_chLimit_ne {q : Reg} {c : Nat} (h : q ≠ .chLimit c) (v : Word) (s : State) :
    readReg q (writeReg (.chLimit c) v s) = readReg q s := by
  have part {α : Type} (F : Channel → α) (hF : F { s.chan c with limit := v } = F (s.chan c)) (d : Nat) :
      F ((writeReg (.chLimit c) v s).chan d) = F (s.chan d) := chan_setChan_part F hF d
  cases q with
  | chLimit d =>
    have hne : c ≠ d := fun e => h (e ▸ rfl)
    exact congrArg Channel.limit (chan_setChan_ne s c d _ hne)
  | chCfg d => exact part (fun x => chCfgWord x.cfg) rfl d
  | chAvg d => exact part Channel.avg rfl d
  | chAcc d => exact part Channel.acc rfl d
  | chCur d => exact part (fun x => x.cur.setWidth 32) rfl d
  | buf d k => exact part (fun x => (x.slot k).signExtend 32) rfl d
  | _ => rfl

theorem getD_set_ne {l : List Half} {i j : Nat} (h : i ≠ j) (x d : Half) : (l.set i x).getD j d = l.getD j d := by
  simp [List.getElem?_set_ne h]

theorem readReg_writeReg_num_ne {q : Reg} {i : Nat} (h : q ≠ .num i) (v : Word) (s : State) :
    readReg q (writeReg (.num i) v s) = readReg q s := by
  cases q with
  | num j => exact congrArg (·.signExtend 32) (getD_set_ne (fun e : i = j => h (e ▸ rfl)) _ _)
  | _ => rfl

theorem readReg_writeReg_den_ne {q : Reg} {i : Nat} (h : q ≠ .den i) (v : Word) (s : State) :
    readReg q (writeReg (.den i) v s) = readReg q s := by
  cases q with
  | den j => exact congrArg (·.signExtend 32) (getD_set_ne (fun e : i = j => h (e ▸ rfl)) _ _)
  | _ => rfl

/-- A read-write register with fields of its own: no other register shows them. -/
theorem readReg_writeReg_single_ne {q r : Reg} (h : q ≠ r)
    (hr : r ∈ [.irqEn, .arg0, .arg1, .arg2, .protCfg, .aggMask, .aggLimit, .outEn, .vref, .droopScale, .gdSettle, .gdAvg,
      .compLen, .duty, .ctrlCfg]) (v : Word) (s : State) : readReg q (writeReg r v s) = readReg q s := by
  cases r with
  | irqEn => cases q with | irqEn => exact absurd rfl h | _ => rfl
  | arg0 => cases q with | arg0 => exact absurd rfl h | _ => rfl
  | arg1 => cases q with | arg1 => exact absurd rfl h | _ => rfl
  | arg2 => cases q with | arg2 => exact absurd rfl h | _ => rfl
  | protCfg => cases q with | protCfg => exact absurd rfl h | _ => rfl
  | aggMask => cases q with | aggMask => exact absurd rfl h | _ => rfl
  | aggLimit => cases q with | aggLimit => exact absurd rfl h | _ => rfl
  | outEn => cases q with | outEn => exact absurd rfl h | _ => rfl
  | vref => cases q with | vref => exact absurd rfl h | _ => rfl
  | droopScale => cases q with | droopScale => exact absurd rfl h | _ => rfl
  | gdSettle => cases q with | gdSettle => exact absurd rfl h | _ => rfl
  | gdAvg => cases q with | gdAvg => exact absurd rfl h | _ => rfl
  | compLen => cases q with | compLen => exact absurd rfl h | _ => rfl
  | duty => cases q with | duty => exact absurd rfl h | _ => rfl
  | ctrlCfg => cases q with | ctrlCfg => exact absurd rfl h | _ => rfl
  | _ => simp at hr

/-- Settles O44: the step is the register's write; each register reads back its own bits, and no other changes. -/
theorem readBackAfterWrite : Obligations.ReadBackAfterWrite := by
  refine ⟨fun s p a v rest r hi ha hr => step_busWrite_mapped hi ha hr, fun s v hp hs => ?_⟩
  obtain ⟨⟨-, hch⟩, hout, -⟩ := hp
  obtain ⟨hchan, hnum, hden, -, -⟩ := hs
  refine ⟨setWidth_extract_low v 3, rfl, rfl, rfl, readBack_protCfg v s, setWidth_and_lowBits v hch, rfl,
    setWidth_and_lowBits v (hout.trans hch), rfl, rfl, setWidth_extract_low v 16, setWidth_extract_low v 16,
    readBack_compLen v s, fun i hi => ⟨?num, ?den⟩, fun c hc => ?limit, fun q r hne hr => ?others⟩
  case num => exact readBack_coefficient v (hnum ▸ hi)
  case den => exact readBack_coefficient v (hden ▸ hi)
  case limit => exact congrArg Channel.limit (chan_setChan_same s c _ (hchan ▸ hc))
  case others =>
    rcases hr with hr | ⟨i, rfl⟩ | ⟨i, rfl⟩ | ⟨c, rfl⟩
    · exact readReg_writeReg_single_ne hne hr v s
    · exact readReg_writeReg_num_ne hne v s
    · exact readReg_writeReg_den_ne hne v s
    · exact readReg_writeReg_chLimit_ne hne v s

end Sys2Proof.Machine
end

section
/-!
The encoding (30_encoding.md). One characterisation carries the family: a word decodes to a command exactly when the
command is well formed and its assembled word is the word with the ignored bits cleared (`decode_eq_ok_iff_encode`).
-/

namespace Sys2Proof

/-! ### What decoding answers -/

/-- The operands R111 reads from the word are those of the command. -/
def Instr.HasOperandsOf (w : Word) : Instr → Prop
  | .supd c x => indexOperand w = c ∧ signedOperand w = x
  | .sget c | .sclr c => indexOperand w = c
  | .pshd r => reasonOperand w = r
  | .oset o b => indexOperand w = o ∧ levelOperand w = b
  | .cstep x | .gstep x | .droop x => signedOperand w = x
  | .mulsc k => shiftOperand w = k
  | .sat n => widthOperand w = n
  | .nop | .tick | .pchk | .pren | .crst | .gfrc => True
  | .add | .sub | .adds | .subs | .mul | .clamp | .divt => True

section Answers

variable {w : Word} {i : Instr}

/-- `OP` selects the command, and its form says where the operands stand (R111, R113). -/
theorem decode_eq_ok_iff : decode w = .ok i ↔ (opField w).toNat = i.opcode ∧ i.HasOperandsOf w := by
  constructor
  · intro h
    unfold decode at h
    split at h <;> cases h <;> exact ⟨‹_›, by simp only [Instr.HasOperandsOf, and_self]⟩
  · rintro ⟨hop, hargs⟩
    unfold decode
    rw [hop]
    cases i with
    | supd c x | oset c x =>
      obtain ⟨rfl, rfl⟩ := hargs
      rfl
    | sget | sclr | pshd | cstep | gstep | droop | mulsc | sat =>
      cases hargs
      rfl
    | _ => rfl

/-- Each of the 23 defined values of `OP` selects a command, the one with that opcode (R113). -/
theorem decode_of_defined (h : (opField w).toNat ∈ definedOpcodes) :
    ∃ i, decode w = .ok i ∧ i.opcode = (opField w).toNat := by
  cases hd : decode w with
  | ok i => exact ⟨i, rfl, (decode_eq_ok_iff.mp hd).1.symm⟩
  | error e =>
    unfold decode at hd
    split at hd
    case h_24 => simp_all [definedOpcodes]
    all_goals cases hd

/-- Every other value of `OP` is an error that names it (R113). -/
theorem decode_of_undefined (h : (opField w).toNat ∉ definedOpcodes) :
    decode w = .error (.undefinedOpcode (opField w).toNat) := by
  unfold decode
  split
  case h_24 => rfl
  all_goals exact absurd (by simp [definedOpcodes, *]) h

end Answers

/-! ### The used bits, field by field -/

/-- The bits of `IDX` a form uses (R111). -/
def Form.idxMask : Form → BitVec 8
  | .C | .CI | .OB => BitVec.allOnes 8
  | .N | .I | .R | .K | .W => 0#8

/-- The bits of `IMM` a form uses (R111). -/
def Form.immMask : Form → Half
  | .CI | .I => BitVec.allOnes 16
  | .R => BitVec.ofNat 16 (2 ^ 8 - 1)
  | .OB => 1#16
  | .K => BitVec.ofNat 16 (2 ^ 6 - 1)
  | .W => BitVec.ofNat 16 (2 ^ 5 - 1)
  | .N | .C => 0#16

/-- A word is its three fields (R110). -/
theorem word_eq_iff_fields {v w : Word} :
    v = w ↔ opField v = opField w ∧ idxField v = idxField w ∧ immField v = immField w := by
  refine ⟨by rintro rfl; exact ⟨rfl, rfl, rfl⟩, fun ⟨hop, hidx, himm⟩ => ?_⟩
  rw [← commandWord_fields v, hop, hidx, himm, commandWord_fields]

section UsedBits

variable (w : Word) (f : Form)

/-- Every form uses the whole `OP`. -/
theorem opField_and_usedBits : opField (w &&& f.usedBits) = opField w := by
  have hmask : opField f.usedBits = BitVec.allOnes 8 := by cases f <;> rfl
  rw [opField, BitVec.extractLsb'_and, ← opField, ← opField, hmask, BitVec.and_allOnes]

theorem idxField_and_usedBits : idxField (w &&& f.usedBits) = idxField w &&& f.idxMask := by
  have hmask : idxField f.usedBits = f.idxMask := by cases f <;> rfl
  rw [idxField, BitVec.extractLsb'_and, ← idxField, ← idxField, hmask]

theorem immField_and_usedBits : immField (w &&& f.usedBits) = immField w &&& f.immMask := by
  have hmask : immField f.usedBits = f.immMask := by cases f <;> rfl
  rw [immField, BitVec.extractLsb'_and, ← immField, ← immField, hmask]

end UsedBits

/-! ### The operands, as bits of the assembler's fields -/

section Operands

variable {w : Word}

/-- An index operand is the whole `IDX`. -/
theorem ofNat_eq_idxField_iff {c : Nat} (h : c ≤ 255) :
    BitVec.ofNat 8 c = idxField w &&& BitVec.allOnes 8 ↔ indexOperand w = c := by
  rw [BitVec.and_allOnes, ← BitVec.toNat_inj, BitVec.toNat_ofNat, Nat.mod_eq_of_lt (Nat.lt_succ_of_le h), eq_comm,
    indexOperand]

/-- A signed operand is the whole `IMM`, read in two's complement. -/
theorem ofInt_eq_immField_iff {x : Int} (h : -32768 ≤ x ∧ x ≤ 32767) :
    BitVec.ofInt 16 x = immField w &&& BitVec.allOnes 16 ↔ signedOperand w = x := by
  rw [BitVec.and_allOnes]
  constructor
  · intro e
    exact (congrArg BitVec.toInt e).symm.trans (Machine.sext_ofInt16 x h.1 h.2)
  · rintro rfl
    exact Machine.ofInt_sext (immField w)

/-- An operand of `n` bits at the bottom of `IMM`; the rest of `IMM` is ignored. -/
theorem ofNat_eq_immField_and_iff {n v : Nat} (hn : n ≤ 16) (hv : v < 2 ^ n) :
    BitVec.ofNat 16 v = immField w &&& BitVec.ofNat 16 (2 ^ n - 1) ↔ (w.extractLsb' 0 n).toNat = v := by
  have hpow : 2 ^ n ≤ 2 ^ 16 := Nat.pow_le_pow_right (by decide) hn
  have hmask : (2 ^ n - 1) % 2 ^ 16 = 2 ^ n - 1 := Nat.mod_eq_of_lt (by omega)
  rw [toNat_extract_low w n hn, ← BitVec.toNat_inj, BitVec.toNat_and, BitVec.toNat_ofNat, BitVec.toNat_ofNat, hmask,
    Nat.and_two_pow_sub_one_eq_mod, Nat.mod_eq_of_lt (hv.trans_le hpow), eq_comm]

/-- A level is bit 0 of `IMM`. -/
theorem ofBool_eq_immField_and_iff {b : Bool} :
    (BitVec.ofBool b).setWidth 16 = immField w &&& 1#16 ↔ levelOperand w = b := by
  rw [level_eq, BitVec.and_one_eq_setWidth_ofBool_getLsbD]
  cases b <;> cases (immField w).getLsbD 0 <;> decide

/-- The assembler's `IDX` and `IMM` are a word's used bits there exactly when the operands are the word's (R111). -/
theorem fields_eq_used_iff {i : Instr} (h : i.wf = true) :
    (BitVec.ofNat 8 i.idxBits = idxField w &&& i.form.idxMask ∧
      i.immBits = immField w &&& i.form.immMask) ↔ i.HasOperandsOf w := by
  have idx_none : 0#8 = idxField w &&& 0#8 := BitVec.and_zero.symm
  have imm_none : 0#16 = immField w &&& 0#16 := BitVec.and_zero.symm
  cases i with
  | supd c x =>
    obtain ⟨hc, hx⟩ : c ≤ 255 ∧ -32768 ≤ x ∧ x ≤ 32767 := by simpa [Instr.wf] using h
    exact and_congr (ofNat_eq_idxField_iff hc) (ofInt_eq_immField_iff hx)
  | sget c | sclr c => exact (and_iff_left imm_none).trans (ofNat_eq_idxField_iff ((indexOk_iff c).mp h))
  | oset o b => exact and_congr (ofNat_eq_idxField_iff ((indexOk_iff o).mp h)) ofBool_eq_immField_and_iff
  | cstep x | gstep x | droop x => exact (and_iff_right idx_none).trans (ofInt_eq_immField_iff ((immOk_iff x).mp h))
  | pshd r =>
    have hr : r < 2 ^ 8 := Nat.lt_succ_of_le ((reasonOk_iff r).mp h)
    exact (and_iff_right idx_none).trans (ofNat_eq_immField_and_iff (by decide) hr)
  | mulsc k =>
    have hk : k < 2 ^ 6 := Nat.lt_succ_of_le ((shiftOk_iff k).mp h)
    exact (and_iff_right idx_none).trans (ofNat_eq_immField_and_iff (by decide) hk)
  | sat n =>
    obtain ⟨h1, h32⟩ := (widthOk_iff n).mp h
    have hn : n - 1 < 2 ^ 5 := by omega
    have hwidth : (w.extractLsb' 0 5).toNat = n - 1 ↔ widthOperand w = n := by
      rw [widthOperand]
      omega
    exact (and_iff_right idx_none).trans ((ofNat_eq_immField_and_iff (by decide) hn).trans hwidth)
  | nop | tick | pchk | pren | crst | gfrc | add | sub | adds | subs | mul | clamp | divt =>
    exact iff_true_intro ⟨idx_none, imm_none⟩

end Operands

/-! ### Decoding and encoding -/

theorem opcode_lt (i : Instr) : i.opcode < 256 := by cases i <;> simp [Instr.opcode]

theorem opcode_eq_opField_iff {w : Word} {i : Instr} :
    BitVec.ofNat 8 i.opcode = opField w ↔ (opField w).toNat = i.opcode := by
  rw [← BitVec.toNat_inj, BitVec.toNat_ofNat, Nat.mod_eq_of_lt (opcode_lt i), eq_comm]

/-- The assembled word of a well-formed command is the used bits of a word exactly when the word holds the command's
opcode and operands. -/
theorem encode_eq_used_iff {w : Word} {i : Instr} (h : i.wf = true) :
    encode i = w &&& i.form.usedBits ↔ (opField w).toNat = i.opcode ∧ i.HasOperandsOf w := by
  rw [word_eq_iff_fields, encode, opField_commandWord, idxField_commandWord, immField_commandWord, opField_and_usedBits,
    idxField_and_usedBits, immField_and_usedBits, opcode_eq_opField_iff, fields_eq_used_iff h]

/-- A word is a command exactly when the command is well formed and assembles to the word's used bits (R111, R115,
R117). -/
theorem decode_eq_ok_iff_encode {w : Word} {i : Instr} :
    decode w = .ok i ↔ i.wf = true ∧ encode i = w &&& i.form.usedBits :=
  ⟨fun h => ⟨Machine.decode_wf h, (encode_eq_used_iff (Machine.decode_wf h)).mpr (decode_eq_ok_iff.mp h)⟩,
    fun ⟨hw, he⟩ => decode_eq_ok_iff.mpr ((encode_eq_used_iff hw).mp he)⟩

theorem idxBits_and_idxMask (i : Instr) :
    BitVec.ofNat 8 i.idxBits &&& i.form.idxMask = BitVec.ofNat 8 i.idxBits := by
  cases i with
  | supd | sget | sclr | oset => exact BitVec.and_allOnes
  | _ => exact BitVec.zero_and

theorem ofNat_and_lowMask {n v : Nat} (hv : v < 2 ^ n) :
    BitVec.ofNat 16 v &&& BitVec.ofNat 16 (2 ^ n - 1) = BitVec.ofNat 16 v := by
  rw [← BitVec.ofNat_and, Nat.and_two_pow_sub_one_of_lt_two_pow hv]

theorem ofBool_and_one :
    ∀ b : Bool, (BitVec.ofBool b).setWidth 16 &&& 1#16 = (BitVec.ofBool b).setWidth 16 := by decide

theorem immBits_and_immMask {i : Instr} (h : i.wf = true) : i.immBits &&& i.form.immMask = i.immBits := by
  cases i with
  | supd | cstep | gstep | droop => exact BitVec.and_allOnes
  | pshd r => exact ofNat_and_lowMask (n := 8) (Nat.lt_succ_of_le ((reasonOk_iff r).mp h))
  | mulsc k => exact ofNat_and_lowMask (n := 6) (Nat.lt_succ_of_le ((shiftOk_iff k).mp h))
  | sat n =>
    obtain ⟨h1, h32⟩ := (widthOk_iff n).mp h
    have hn : n - 1 < 2 ^ 5 := by omega
    exact ofNat_and_lowMask hn
  | oset _ b => exact ofBool_and_one b
  | _ => exact BitVec.zero_and

/-- The assembler writes every ignored bit as 0 (R117). -/
theorem encode_and_usedBits {i : Instr} (h : i.wf = true) : encode i &&& i.form.usedBits = encode i := by
  rw [word_eq_iff_fields]
  refine ⟨opField_and_usedBits _ _, ?_, ?_⟩
  · rw [idxField_and_usedBits, encode, idxField_commandWord, idxBits_and_idxMask]
  · rw [immField_and_usedBits, encode, immField_commandWord, immBits_and_immMask h]

end Sys2Proof

namespace Sys2Proof.Machine

/-! ### The statements -/

/-- Settles O1: an assembled word is its own used bits. -/
theorem decodeOfEncodeIsTheCommand : Obligations.DecodeOfEncodeIsTheCommand :=
  fun _ hw => decode_eq_ok_iff_encode.mpr ⟨hw, (encode_and_usedBits hw).symm⟩

/-- Settles O2: decoding sees a word through its used bits alone. -/
theorem decodedCommandReencodesAndIgnoresUnusedBits : Obligations.DecodedCommandReencodesAndIgnoresUnusedBits := by
  intro w i hd
  obtain ⟨hw, he⟩ := decode_eq_ok_iff_encode.mp hd
  exact ⟨hw, he, fun w' hsame => decode_eq_ok_iff_encode.mpr ⟨hw, he.trans hsame.symm⟩⟩

/-- A write of an undefined opcode to `CMD` records the error, and the step is over (R113). -/
theorem step_of_undefined {s : State} {p : Ports} {w : Word} {rest : List Stimulus} {e : DecodeError}
    (hi : s.inputs = { ports := p, action := .busWrite cmdAddr w } :: rest) (hd : decode w = .error e) :
    step s = .next (recordError .illegalOp { s with inputs := rest, ports := p, resp := .write false }) := by
  apply step_of_done
  simp only [nextWork_of_inputs hi, act, if_true, writeCmd, hd, present, respond]

/-- Settles O3: an opcode off the list decodes to the error that names it, and `CMD` records it. -/
theorem undefinedOpcodesRaiseIllegalOp : Obligations.UndefinedOpcodesRaiseIllegalOp :=
  ⟨rfl, by decide, by decide, fun _ => decode_of_defined, fun _ => decode_of_undefined,
    fun _ _ _ _ hi h => ⟨_, step_of_undefined hi (decode_of_undefined h)⟩⟩

/-- Settles O4: ten fixed words, run through the decoder. -/
theorem exampleWordsDecode : Obligations.ExampleWordsDecode := by
  unfold Obligations.ExampleWordsDecode
  decide

end Sys2Proof.Machine
end

section
/-!
The sensor commands `SUPD`, `SGET` and `SCLR` (41_sensor.md R141 to R147): what each leaves, and the exact arithmetic of
the channel update.
-/

namespace Sys2Proof.Machine

/-! ### A channel command -/

section ChannelCommands

variable {c : Nat} {s : State} {x : Int}

theorem complete_withChannel_of_lt (f : Channel → State) (h : c < s.params.nCh) :
    complete s (withChannel c s f) = .next (f (s.chan c)) := by
  rw [complete_eq_next, withChannel, if_pos h, settle_ok]

/-- R112: the index is checked before anything else. -/
theorem complete_withChannel_of_ge (f : Channel → State) (h : s.params.nCh ≤ c) :
    complete s (withChannel c s f) = .next (recordError .badIndex s) := by
  rw [complete_eq_next, withChannel, if_neg (Nat.not_lt.mpr h), settle_error]

theorem exec_supd_of_lt (h : c < s.params.nCh) :
    exec (.supd c x) s = .next { s with
      ch := s.ch.set c (chanUpdate s.params x (s.chan c)), result := (chanUpdate s.params x (s.chan c)).avg } :=
  complete_withChannel_of_lt _ h

end ChannelCommands

/-- Settles O8: `RESULT` and the `CH_AVG` read are the same field. -/
theorem sgetReadsTheLastAverage : Obligations.SgetReadsTheLastAverage :=
  ⟨fun _ hop => decode_eq_ok_iff.mpr ⟨congrArg BitVec.toNat hop, rfl⟩,
    fun _ _ hc => complete_withChannel_of_ge _ hc,
    fun _ _ hc => ⟨complete_withChannel_of_lt _ hc, rfl⟩⟩

/-- Settles O9: the channel left behind is the cleared one. -/
theorem sclrClearsTheChannel : Obligations.SclrClearsTheChannel :=
  ⟨fun _ hop => decode_eq_ok_iff.mpr ⟨congrArg BitVec.toNat hop, rfl⟩,
    fun _ _ hc => complete_withChannel_of_ge _ hc,
    fun s c hc => ⟨clearChannel (s.chan c), complete_withChannel_of_lt _ hc, rfl, rfl, clearChannel_slot _, rfl, rfl,
      rfl, clearChannel_conserved _⟩⟩

/-! ### The update, exactly -/

section Update

variable {p : Params} {x : Channel} {v : Int}

theorem window_cast (x : Channel) : (x.window : Int) = 2 ^ x.cfg.winLog2.val := by simp [Channel.window]

/-- The stored sample, with the limits of 16 bits written out (R142). -/
theorem storedSample_eq (p : Params) (x : Channel) (v : Int) :
    storedSample p x v = if x.cfg.ofs then min (max (v - p.midpoint) (-32768)) 32767 else v := rfl

/-- The slot at the cursor holds the stored sample, unchanged by its 16 bits. -/
theorem sext_chanUpdate_slot_cur (hv : -32768 ≤ v ∧ v ≤ 32767) :
    sext ((chanUpdate p v x).slot x.cur.toNat) = storedSample p x v := by
  obtain ⟨h1, h2⟩ := storedSample_bounds p x v hv.1 hv.2
  rw [chanUpdate_slot, if_pos rfl, sext_ofInt16 _ h1 h2]

/-- The accumulator moves by the newest sample less the oldest, without wrapping (R142, R147). -/
theorem sext_chanUpdate_acc (h : x.Conserved) (hv : -32768 ≤ v ∧ v ≤ 32767) :
    sext (chanUpdate p v x).acc = sext x.acc - sext (x.slot x.cur.toNat) + storedSample p x v := by
  obtain ⟨hacc', -, -, -⟩ := chanUpdate_conserved p h hv
  obtain ⟨hacc, hcur, -, -⟩ := h
  rw [hacc', sum_chanUpdate_windowSlots p v x hcur hv, hacc]

end Update

/-- Settles O7: field by field, the update of R142. -/
theorem supdUpdatesTheChannelExactly : Obligations.SupdUpdatesTheChannelExactly := by
  refine ⟨fun _ hop => decode_eq_ok_iff.mpr ⟨congrArg BitVec.toNat hop, rfl, rfl⟩,
    fun _ _ _ hc => complete_withChannel_of_ge _ hc, fun s c x hc hlo hhi h => ?_⟩
  have hx : -32768 ≤ x ∧ x ≤ 32767 := ⟨hlo, hhi⟩
  have hslot := sext_chanUpdate_slot_cur (p := s.params) (x := s.chan c) hx
  have hacc := sext_chanUpdate_acc (p := s.params) h hx
  obtain ⟨-, -, havg, -⟩ := chanUpdate_conserved s.params h hx
  rw [window_cast] at havg
  exact ⟨chanUpdate s.params x (s.chan c), exec_supd_of_lt hc, rfl, rfl,
    fun k hk => (chanUpdate_slot _ _ _ k).trans (if_neg hk), hslot, hacc.trans (congrArg _ hslot.symm),
    chanUpdate_cur _ _ _, havg⟩

/-! ### The window sum -/

theorem sum_take_eq_sum_range {α : Type} (f : α → Int) (d : α) (l : List α) {n : Nat} (h : n ≤ l.length) :
    ((l.take n).map f).sum = ∑ k ∈ Finset.range n, f (l.getD k d) := by
  induction n with
  | zero => rfl
  | succ n ih =>
    rw [Finset.sum_range_succ, ← ih (by omega), List.take_succ_eq_append_getElem h, List.map_append, List.sum_append,
      List.getD_eq_getElem _ _ h]
    simp

/-- R46 (a), slot by slot. -/
theorem Channel.Conserved.acc_eq_sum_slots {x : Channel} (h : x.Conserved) :
    sext x.acc = ∑ k ∈ Finset.range x.window, sext (x.slot k) := by
  obtain ⟨hacc, -, -, -⟩ := h
  rw [hacc, sum_take_eq_sum_range sext 0#16 _ (by simpa using window_le x)]
  rfl

/-- R147: an average fits 16 bits, because the accumulator lies between `W` times the least and the largest sample. -/
theorem Channel.Conserved.avg_bounds {x : Channel} (h : x.Conserved) : -32768 ≤ sext x.avg ∧ sext x.avg ≤ 32767 := by
  obtain ⟨hlo, hhi⟩ := h.acc_bounds
  obtain ⟨-, -, havg, -⟩ := h
  have hw : (0 : Int) < x.window := by exact_mod_cast window_pos x
  rw [havg]
  refine ⟨Int.le_tdiv_of_mul_le hw (by omega), ?_⟩
  calc tdiv (sext x.acc) x.window
      ≤ Int.tdiv (32767 * x.window) x.window := Int.tdiv_le_tdiv hw hhi
    _ = 32767 := Int.mul_tdiv_cancel _ hw.ne'

/-- Settles O13: the update keeps R46, and R46 bounds the sum of at most 32 samples. -/
theorem updateConservesTheWindowSum : Obligations.UpdateConservesTheWindowSum := by
  rintro p v x y h hlo hhi rfl
  have hy := chanUpdate_conserved p h ⟨hlo, hhi⟩
  have hw := window_le (chanUpdate p v x)
  have hcast : ((chanUpdate p v x).window : Int) = 2 ^ x.cfg.winLog2.val := window_cast _
  obtain ⟨hacc, hacc'⟩ : -(32768 * ((chanUpdate p v x).window : Int)) ≤ (chanUpdate p v x).acc.toInt ∧
    (chanUpdate p v x).acc.toInt ≤ 32767 * (chanUpdate p v x).window := hy.acc_bounds
  refine ⟨hy, hy.acc_eq_sum_slots, hcast ▸ hacc, hcast ▸ hacc', ?_, hy.avg_bounds⟩
  rw [abs_le]
  omega

end Sys2Proof.Machine
end

section
/-!
R146, the moving average. In age order the window is a queue: an update drops its oldest sample and appends the newest
(`history_chanUpdate`), so after any updates it holds the most recent `W` samples, and R46 gives its mean.
-/

namespace Sys2Proof.Machine

/-! ### The window as a queue -/

/-- The samples of the window, the oldest first: the cursor stands at the oldest (R142). -/
def Channel.history (x : Channel) : List Int := ((x.buf.toList.take x.window).map sext).rotate x.cur.toNat

/-- Updates with several samples, the first of the list first. -/
def chanUpdates (p : Params) (x : Channel) (vs : List Int) : Channel := vs.foldl (fun y v => chanUpdate p v y) x

theorem chanUpdates_cons (p : Params) (x : Channel) (v : Int) (vs : List Int) :
    chanUpdates p x (v :: vs) = chanUpdates p (chanUpdate p v x) vs := rfl

section Queue

variable {p : Params} {x : Channel} {v : Int}

/-- Overwriting the head of a rotated list and rotating on is dropping the head and appending. -/
theorem rotate_set_succ {α : Type} {l : List α} {k : Nat} (h : k < l.length) (v : α) :
    (l.set k v).rotate (k + 1) = (l.rotate k).tail ++ [v] := by
  rw [List.rotate_eq_drop_append_take (by rwa [List.length_set]), List.rotate_eq_drop_append_take h.le,
    List.drop_set_of_lt (Nat.lt_succ_self k), List.take_succ_eq_append_getElem (by rwa [List.length_set]),
    List.take_set_of_le le_rfl, List.getElem_set_self, List.drop_eq_getElem_cons h, List.cons_append, List.tail_cons,
    List.append_assoc]

theorem length_history (x : Channel) : x.history.length = x.window := by
  rw [Channel.history, List.length_rotate, List.length_map, length_windowSlots]

theorem history_chanUpdate (hc : x.cur.toNat < x.window) (hv : -32768 ≤ v ∧ v ≤ 32767) :
    (chanUpdate p v x).history = x.history.tail ++ [storedSample p x v] := by
  obtain ⟨h1, h2⟩ := storedSample_bounds p x v hv.1 hv.2
  have hlen : ((x.buf.toList.take x.window).map sext).length = x.window := by
    rw [List.length_map, length_windowSlots]
  rw [Channel.history, chanUpdate_windowSlots, chanUpdate_cur, List.map_set, sext_ofInt16 _ h1 h2, Channel.history,
    ← rotate_set_succ (by rwa [hlen]), ← List.rotate_mod _ (x.cur.toNat + 1), List.length_set, hlen]

theorem chanUpdates_conserved (vs : List Int) (h : x.Conserved) (hvs : ∀ v ∈ vs, -32768 ≤ v ∧ v ≤ 32767) :
    (chanUpdates p x vs).Conserved :=
  List.foldlRecOn vs _ h fun _ hy v hv => chanUpdate_conserved p hy (hvs v hv)

theorem chanUpdates_window (vs : List Int) : (chanUpdates p x vs).window = x.window :=
  List.foldlRecOn (motive := fun y : Channel => y.window = x.window) vs _ rfl fun _ hy _ _ => hy

/-- After any updates the window holds the last `W` of its samples and theirs. -/
theorem history_chanUpdates (vs : List Int) (h : x.Conserved) (hvs : ∀ v ∈ vs, -32768 ≤ v ∧ v ≤ 32767) :
    (chanUpdates p x vs).history = (x.history ++ vs.map (storedSample p x)).drop vs.length := by
  induction vs generalizing x with
  | nil => simp [chanUpdates]
  | cons v vs ih =>
    obtain ⟨hv, hvs⟩ := List.forall_mem_cons.mp hvs
    have hnext := chanUpdate_conserved p h hv
    obtain ⟨-, hcur, -, -⟩ := h
    have hstored : storedSample p (chanUpdate p v x) = storedSample p x := rfl
    obtain ⟨a, q, hq⟩ : ∃ a q, x.history = a :: q :=
      List.exists_cons_of_length_pos (by rw [length_history]; exact window_pos x)
    rw [chanUpdates_cons, ih hnext hvs, hstored, history_chanUpdate hcur hv, hq]
    simp

/-- R46 (a) and (c): the average is the truncated mean of the window, whatever its order. -/
theorem Channel.Conserved.avg_eq_mean_history (h : x.Conserved) : sext x.avg = tdiv x.history.sum x.window := by
  obtain ⟨hacc, -, havg, -⟩ := h
  rw [havg, hacc, Channel.history, (List.rotate_perm _ _).sum_eq]

end Queue

/-! ### From a cleared channel -/

section Cleared

variable {p : Params} {x : Channel}

theorem history_clearChannel (x : Channel) : (clearChannel x).history = List.replicate x.window 0 := by
  have hbuf : (clearChannel x).buf = Vector.replicate 32 0#16 := rfl
  have hwin : (clearChannel x).window = x.window := rfl
  have hzero : sext 0#16 = 0 := rfl
  rw [Channel.history, hbuf, hwin, Vector.toList_replicate, List.take_replicate, List.map_replicate, hzero,
    List.rotate_replicate, Nat.min_eq_left (window_le x)]

/-- An update does not read the old average, so a channel cleared but for its average is updated as a cleared one. -/
theorem chanUpdate_of_cleared (v : Int) (hbuf : x.buf = Vector.replicate 32 0#16) (hacc : x.acc = 0#32)
    (hcur : x.cur = 0#5) : chanUpdate p v x = chanUpdate p v (clearChannel x) := by
  have hx : x = { clearChannel x with avg := x.avg } := by
    rw [clearChannel, ← hbuf, ← hacc, ← hcur]
  rw [hx]
  rfl

/-- R146 on the channel itself: missing samples are the cleared slots, and count as 0. -/
theorem avg_chanUpdates_clearChannel (vs : List Int) (hvs : ∀ v ∈ vs, -32768 ≤ v ∧ v ≤ 32767) :
    sext (chanUpdates p (clearChannel x) vs).avg =
      tdiv ((vs.map (storedSample p x)).drop (vs.length - x.window)).sum x.window := by
  have h := clearChannel_conserved x
  have hstored : storedSample p (clearChannel x) = storedSample p x := rfl
  have hwin : (clearChannel x).window = x.window := rfl
  rw [(chanUpdates_conserved vs h hvs).avg_eq_mean_history, chanUpdates_window, history_chanUpdates vs h hvs,
    history_clearChannel, hstored, hwin, List.drop_append, List.drop_replicate, List.sum_append, List.sum_replicate,
    List.length_replicate, smul_zero, zero_add]

end Cleared

/-! ### A run of `SUPD` commands -/

section Run

variable {s : State} {c : Nat} {p : Ports}

/-- The agent step that writes `SUPD c, #x` to `CMD`. -/
def supdStimulus (p : Ports) (c : Nat) (x : Int) : Stimulus :=
  { ports := p, action := .busWrite 0x00C#13 (encode (.supd c x)) }

/-- The state after that step. -/
def afterSupd (p : Ports) (c : Nat) (x : Int) (rest : List Stimulus) (s : State) : State :=
  { s with
    inputs := rest
    ports := p
    resp := .write false
    ch := s.ch.set c (chanUpdate s.params x (s.chan c))
    result := (chanUpdate s.params x (s.chan c)).avg }

theorem step_supd {x : Int} {rest : List Stimulus} (hi : s.inputs = supdStimulus p c x :: rest) (hc : c < s.params.nCh)
    (hc' : c ≤ 255) (hx : -32768 ≤ x ∧ x ≤ 32767) : step s = .next (afterSupd p c x rest s) := by
  have hw : (Instr.supd c x).wf = true := by simp [Instr.wf, hc', hx]
  rw [stepExecutesTheDecodedCommand s p _ rest _ hi (decodeOfEncodeIsTheCommand _ hw)]
  refine exec_supd_of_lt ?_
  exact hc

theorem chan_afterSupd (x : Int) (rest : List Stimulus) (hl : c < s.ch.length) :
    (afterSupd p c x rest s).chan c = chanUpdate s.params x (s.chan c) :=
  chan_setChan_same s c _ hl

theorem run_succ_of_step {t : State} (k : Nat) (h : step s = .next t) : core.run (k + 1) s = core.run k t := by
  have hcore : core.step s = .next t := h
  simp only [Host.Core.run, hcore]

/-- A run of `SUPD` commands updates the channel with their samples, and `RESULT` is the last average. -/
theorem run_supds (x : Int) (xs : List Int) (hi : s.inputs = (x :: xs).map (supdStimulus p c)) (hc : c < s.params.nCh)
    (hl : c < s.ch.length) (hc' : c ≤ 255) (hxs : ∀ v ∈ x :: xs, -32768 ≤ v ∧ v ≤ 32767) :
    ∃ t : State, core.run (xs.length + 1) s = .next t ∧ t.result = (t.chan c).avg ∧
      t.chan c = chanUpdates s.params (s.chan c) (x :: xs) := by
  induction xs generalizing x s with
  | nil =>
    have hchan := chan_afterSupd (p := p) x [] hl
    exact ⟨_, run_succ_of_step 0 (step_supd hi hc hc' (hxs x (by simp))), congrArg Channel.avg hchan.symm, hchan⟩
  | cons y ys ih =>
    obtain ⟨hx, hys⟩ := List.forall_mem_cons.mp hxs
    have hl' : c < (afterSupd p c x ((y :: ys).map (supdStimulus p c)) s).ch.length := by simpa [afterSupd] using hl
    obtain ⟨t, hrun, hres, hchan⟩ := ih (s := afterSupd p c x _ s) y rfl hc hl' hys
    refine ⟨t, (run_succ_of_step _ (step_supd hi hc hc' hx)).trans hrun, hres, ?_⟩
    rw [hchan, chan_afterSupd x _ hl, chanUpdates_cons]
    rfl

end Run

/-- Settles O12: the run is a sequence of updates of the cleared channel. -/
theorem movingAverageOfTheLastWindow : Obligations.MovingAverageOfTheLastWindow := by
  intro s c xs p hc hl hc' hne hxs hbuf hacc hcur hi
  cases xs with
  | nil => exact absurd rfl hne
  | cons x xs =>
    obtain ⟨t, hrun, hres, hchan⟩ := run_supds x xs hi hc hl hc' hxs
    refine ⟨t, hrun, hres, ?_⟩
    rw [hchan, chanUpdates_cons, chanUpdate_of_cleared x hbuf hacc hcur, ← chanUpdates_cons]
    have havg := avg_chanUpdates_clearChannel (p := s.params) (x := s.chan c) (x :: xs) hxs
    rw [window_cast] at havg
    exact havg

end Sys2Proof.Machine
end

section
/-!
The tick (41_sensor.md R150 to R152): the phases that do nothing while Latched or disabled, what each leaves of the
configuration, and that no phase reads or writes the bus answer.
-/

namespace Sys2Proof.Machine

section Phases

variable {s : State}

/-! ### Phases that do nothing -/

theorem hwShutdown_of_low (h : s.ports.shdn = false) : hwShutdown s = s := by simp [hwShutdown, h]

theorem hwShutdown_of_latched (h : s.prot.latched = true) : hwShutdown s = s := by simp [hwShutdown, h]

theorem hwShutdown_of_armed (hs : s.ports.shdn = true) (h : s.prot.latched = false) :
    hwShutdown s = enterLatch 0#8 s := by simp [hwShutdown, hs, h]

theorem protCheck_of_disabled (h : s.prot.en = false) : protCheck s = s := by simp [protCheck, h]

theorem protEval_of_latched (h : s.prot.latched = true) : protEval s = s := by simp [protEval, h]

theorem protCheck_of_latched (h : s.prot.latched = true) : protCheck s = s := by
  rw [protCheck, protEval_of_latched h, ite_self]

theorem controlTick_of_latched (h : s.prot.latched = true) : controlTick s = s := by simp [controlTick, h]

theorem controlTick_of_off (hm : s.ctrl.mode = .off) : controlTick s = s := by simp [controlTick, hm]

/-! ### Which effect a phase has otherwise -/

theorem protEval_of_latching (hl : s.prot.latched = false) (hp : s.prot.policy = .latching) :
    protEval s = latchEffect (breaching s) (aggBreach s) s := by simp [protEval, hl, hp]

theorem protEval_of_tripping (hl : s.prot.latched = false) (hp : s.prot.policy = .tripping) :
    protEval s = tripEffect (breaching s) (aggBreach s) s := by simp [protEval, hl, hp]

theorem controlTick_of_comp (hl : s.prot.latched = false) (hm : s.ctrl.mode = .comp) :
    controlTick s = settle s (compStep (controlError (tickReference s)) (tickReference s)) := by
  simp [controlTick, controlPhase, hl, hm]

theorem controlTick_of_gd (hl : s.prot.latched = false) (hm : s.ctrl.mode = .gd) :
    controlTick s = gdStep (controlError (tickReference s)) (tickReference s) := by
  simp [controlTick, controlPhase, hl, hm]

/-! ### What the phases leave of the configuration -/

/-- The configuration registers of the interlock (10_state.md R50, R52, R53). -/
def Prot.settings (q : Prot) : Bool × Policy × BitVec 16 × Word := (q.en, q.policy, q.aggMask, q.aggLimit)

theorem hwShutdown_settings (s : State) : (hwShutdown s).prot.settings = s.prot.settings := by
  rcases hwShutdown_cases s with ⟨-, -, e⟩ | ⟨-, e⟩ <;> rw [e]
  rfl

theorem latchEffect_settings (h : List Nat) (a : Bool) (s : State) :
    (latchEffect h a s).prot.settings = s.prot.settings := by
  unfold latchEffect
  simp only []
  split <;> rfl

theorem tripEffect_settings (h : List Nat) (a : Bool) (s : State) :
    (tripEffect h a s).prot.settings = s.prot.settings := by
  unfold tripEffect
  simp only []
  split <;> rfl

theorem protCheck_settings (s : State) : (protCheck s).prot.settings = s.prot.settings := by
  unfold protCheck
  split
  · rcases protEval_cases s with ⟨-, e⟩ | ⟨-, -, e⟩ | ⟨-, -, e⟩ <;> rw [e]
    · exact latchEffect_settings _ _ s
    · exact tripEffect_settings _ _ s
  · rfl

theorem gdStep_thresholds (e : Int) (s : State) :
    (gdStep e s).gd.settle = s.gd.settle ∧ (gdStep e s).gd.avg = s.gd.avg := by
  rcases gdStep_cases e s with ⟨-, -, h⟩ | ⟨-, -, -, h⟩ | ⟨-, t, rfl, ⟨-, h⟩ | ⟨-, h⟩ | ⟨-, h⟩⟩ <;> rw [h] <;>
    exact ⟨rfl, rfl⟩

theorem tickReference_gd (s : State) : (tickReference s).gd = s.gd := by rw [tickReference_eq]

theorem compStep_gd {x : Int} {t : State} (h : compStep x s = .ok t) : t.gd = s.gd := by
  rw [compStep_ok h]
  rfl

/-- The control phase never writes a threshold of the stepper: the compensator leaves the stepper alone, a call keeps
both (R223). -/
theorem controlTick_thresholds (s : State) :
    (controlTick s).gd.settle = s.gd.settle ∧ (controlTick s).gd.avg = s.gd.avg := by
  rcases controlTick_cases s with ⟨-, h⟩ | ⟨-, -, h⟩ | ⟨-, -, h⟩ <;> rw [h]
  · exact ⟨rfl, rfl⟩
  · rcases settle_cases s (compStep (controlError (tickReference s)) (tickReference s)) with
      ⟨t, ht, e⟩ | ⟨k, -, e⟩ <;> rw [e]
    · rw [compStep_gd ht, tickReference_gd]
      exact ⟨rfl, rfl⟩
    · exact ⟨rfl, rfl⟩
  · rw [← tickReference_gd s]
    exact gdStep_thresholds _ _

/-! ### What the whole tick leaves -/

/-- The state the comparators see: counted, shut down by hardware, refreshed. -/
def sensed (s : State) : State := refreshAll (hwShutdown (countTick s))

theorem tickStep_eq_sensed (s : State) : tickStep s = controlTick (protCheck (sensed s)) := rfl

/-- Counting, the hardware shutdown and the refresh write only the counter, the interlock, the events and channels. -/
theorem sensed_eq (s : State) :
    sensed s = { s with
      tickCnt := s.tickCnt + 1#32
      prot := (hwShutdown (countTick s)).prot
      events := (hwShutdown (countTick s)).events
      ch := (sensed s).ch } := by
  rw [sensed, refreshAll_eq, hwShutdown_eq]
  rfl

theorem sensed_prot (s : State) : (sensed s).prot = (hwShutdown (countTick s)).prot := by rw [sensed_eq]

theorem sensed_events (s : State) : (sensed s).events = (hwShutdown (countTick s)).events := by rw [sensed_eq]

/-- The control phase does not write the interlock. -/
theorem tickStep_prot (s : State) : (tickStep s).prot = (protCheck (sensed s)).prot := by
  rw [tickStep_eq_sensed, controlTick_eq]

theorem tickStep_settings (s : State) : (tickStep s).prot.settings = s.prot.settings := by
  rw [tickStep_prot, protCheck_settings, sensed_prot, hwShutdown_settings]
  rfl

/-- R180: with `EN = 0` and no hardware shutdown the interlock stays as it was. -/
theorem tickStep_prot_of_disabled (hs : s.ports.shdn = false) (he : s.prot.en = false) : (tickStep s).prot = s.prot := by
  have hsensed : (sensed s).prot = s.prot := by
    rw [sensed_prot, hwShutdown_of_low (s := countTick s) hs]
    rfl
  rw [tickStep_prot, protCheck_of_disabled (by rw [hsensed, he]), hsensed]

/-- A tick that is Latched before the comparators run does nothing more (R276). -/
theorem tickStep_of_sensed_latched (h : (sensed s).prot.latched = true) : tickStep s = sensed s := by
  rw [tickStep_eq_sensed, protCheck_of_latched h, controlTick_of_latched h]

/-- R177: a hardware shutdown of an Armed interlock is the tick's only write of it. -/
theorem tickStep_of_shutdown (hs : s.ports.shdn = true) (hl : s.prot.latched = false) :
    (tickStep s).prot = { s.prot with latched := true, reason := 0#8 } ∧ (tickStep s).events = s.events ||| evLatch := by
  have hphase : hwShutdown (countTick s) = enterLatch 0#8 (countTick s) := hwShutdown_of_armed hs hl
  have hprot : (sensed s).prot = { s.prot with latched := true, reason := 0#8 } := by
    rw [sensed_prot, hphase]
    rfl
  rw [tickStep_of_sensed_latched (by rw [hprot]), sensed_events, hphase]
  exact ⟨hprot, rfl⟩

/-- A tick of a Latched machine changes neither the interlock nor the events. -/
theorem tickStep_of_latched (h : s.prot.latched = true) :
    (tickStep s).prot = s.prot ∧ (tickStep s).events = s.events := by
  have hphase : hwShutdown (countTick s) = countTick s := hwShutdown_of_latched h
  have hprot : (sensed s).prot = s.prot := by
    rw [sensed_prot, hphase]
    rfl
  rw [tickStep_of_sensed_latched (by rw [hprot, h]), sensed_events, hphase]
  exact ⟨hprot, rfl⟩

/-- A tick that ends Latched was Latched before its control phase, which then did nothing. -/
theorem tickStep_control_of_latched (h : (tickStep s).prot.latched = true) :
    (tickStep s).ctrl = s.ctrl ∧ (tickStep s).gd = s.gd ∧ (tickStep s).comp = s.comp ∧ (tickStep s).status = s.status := by
  rw [tickStep_prot] at h
  rw [tickStep_eq_sensed, controlTick_of_latched h, protCheck_eq, sensed_eq]
  exact ⟨rfl, rfl, rfl, rfl⟩

/-- The control registers, the stepper and the compensator change in the control phase only, and it keeps their
configuration. -/
theorem tickStep_control (s : State) :
    (tickStep s).ctrl = { s.ctrl with duty := (tickStep s).ctrl.duty, vrefEff := (tickStep s).ctrl.vrefEff } ∧
      ((tickStep s).gd.settle = s.gd.settle ∧ (tickStep s).gd.avg = s.gd.avg) ∧
      (tickStep s).comp = { s.comp with xh := (tickStep s).comp.xh, yh := (tickStep s).comp.yh } := by
  have hbefore : (protCheck (sensed s)).ctrl = s.ctrl ∧ (protCheck (sensed s)).gd = s.gd ∧
      (protCheck (sensed s)).comp = s.comp := by
    rw [protCheck_eq, sensed_eq]
    exact ⟨rfl, rfl, rfl⟩
  obtain ⟨hctrl, hgd, hcomp⟩ := hbefore
  have hthresholds := controlTick_thresholds (protCheck (sensed s))
  rw [hgd] at hthresholds
  refine ⟨?_, hthresholds, ?_⟩
  · rw [tickStep_eq_sensed, controlTick_eq, hctrl]
  · rw [tickStep_eq_sensed, controlTick_eq, hcomp]

/-- R150, one channel: it is refreshed from its own port sample when enabled, else it stays (R152). -/
theorem chan_tickStep (hn : s.ch.length = s.params.nCh) {c : Nat} (hc : c < s.params.nCh) :
    (tickStep s).chan c = refreshed s c (s.chan c) := by
  have hch : (tickStep s).chan c = (refreshAll (hwShutdown (countTick s))).chan c :=
    congrArg (·.getD c Channel.reset) (tickStep_ch s)
  rw [hch, hwShutdown_eq, chan_refreshAll _ (by exact hn) c (by exact hc)]
  rfl

theorem length_tickStep_ch (s : State) : (tickStep s).ch.length = s.ch.length := by
  rw [tickStep_ch, length_refreshAll, hwShutdown_eq]
  rfl

end Phases

/-- Settles O10: each clause is the phase it speaks of. -/
theorem tickRunsTheTickSequence : Obligations.TickRunsTheTickSequence := by
  refine ⟨fun _ hop => decode_eq_ok_iff.mpr ⟨congrArg BitVec.toNat hop, trivial⟩, fun s hn => ?_⟩
  have hframe := tickStep_eq s
  obtain ⟨hctrl, hgd, hcomp⟩ := tickStep_control s
  have hsettings : (tickStep s).prot.en = s.prot.en ∧ (tickStep s).prot.policy = s.prot.policy ∧
      (tickStep s).prot.aggMask = s.prot.aggMask ∧ (tickStep s).prot.aggLimit = s.prot.aggLimit := by
    simpa [Prot.settings] using tickStep_settings s
  refine ⟨tickStep s, rfl, rfl, fun _ => rfl, fun _ => hwShutdown_of_low, tickStep_prot_of_disabled,
    congrArg State.tickCnt hframe, fun c hc => chan_tickStep hn hc, length_tickStep_ch s, ?_, ?_, ?_, hsettings, hctrl, hgd,
    hcomp, tickStep_of_shutdown, tickStep_of_latched, tickStep_control_of_latched⟩ <;> rw [hframe] <;>
    simp only [and_self]

/-! ### The tick and the bus answer -/

section BusAnswer

variable (r : BusResp) (s : State)

theorem hwShutdown_respond : hwShutdown (respond r s) = respond r (hwShutdown s) := by
  simp only [hwShutdown, apply_ite (respond r)]
  rfl

theorem refreshChannel_respond (c : Nat) : refreshChannel (respond r s) c = respond r (refreshChannel s c) := by
  simp only [refreshChannel, apply_ite (respond r)]
  rfl

theorem refreshAll_respond : refreshAll (respond r s) = respond r (refreshAll s) :=
  List.foldl_hom (respond r) fun u c => refreshChannel_respond r u c

theorem latchEffect_respond (h : List Nat) (a : Bool) : latchEffect h a (respond r s) = respond r (latchEffect h a s) := by
  simp only [latchEffect, apply_ite (respond r)]
  rfl

theorem tripEffect_respond (h : List Nat) (a : Bool) : tripEffect h a (respond r s) = respond r (tripEffect h a s) := by
  simp only [tripEffect, apply_ite (respond r)]
  rfl

theorem protEval_respond : protEval (respond r s) = respond r (protEval s) := by
  cases hl : s.prot.latched with
  | true => rw [protEval_of_latched hl, protEval_of_latched (s := respond r s) hl]
  | false =>
    cases hp : s.prot.policy with
    | latching =>
      rw [protEval_of_latching hl hp, protEval_of_latching (s := respond r s) hl hp, ← latchEffect_respond]
      rfl
    | tripping =>
      rw [protEval_of_tripping hl hp, protEval_of_tripping (s := respond r s) hl hp, ← tripEffect_respond]
      rfl

theorem protCheck_respond : protCheck (respond r s) = respond r (protCheck s) := by
  simp only [protCheck, apply_ite (respond r), protEval_respond]
  rfl

theorem compStep_respond (x : Int) : compStep x (respond r s) = (compStep x s).map (respond r) := by
  simp only [compStep, apply_ite (Except.map (respond r))]
  rfl

theorem gdStep_respond (e : Int) : gdStep e (respond r s) = respond r (gdStep e s) := by
  simp only [gdStep, apply_ite (respond r)]
  rfl

theorem tickReference_respond : tickReference (respond r s) = respond r (tickReference s) := by
  simp only [tickReference, apply_ite (respond r)]
  rfl

theorem settle_respond (e : Except Err State) : settle (respond r s) (e.map (respond r)) = respond r (settle s e) := by
  cases e <;> rfl

theorem controlTick_respond : controlTick (respond r s) = respond r (controlTick s) := by
  have herror : controlError (respond r (tickReference s)) = controlError (tickReference s) := rfl
  cases hl : s.prot.latched with
  | true => rw [controlTick_of_latched hl, controlTick_of_latched (s := respond r s) hl]
  | false =>
    cases hm : s.ctrl.mode with
    | off => rw [controlTick_of_off hm, controlTick_of_off (s := respond r s) hm]
    | comp =>
      rw [controlTick_of_comp hl hm, controlTick_of_comp (s := respond r s) hl hm, tickReference_respond, herror,
        compStep_respond, settle_respond]
    | gd =>
      rw [controlTick_of_gd hl hm, controlTick_of_gd (s := respond r s) hl hm, tickReference_respond, herror,
        gdStep_respond]

/-- No phase of the tick reads or writes the bus answer. -/
theorem tickStep_respond : tickStep (respond r s) = respond r (tickStep s) := by
  have hcount : countTick (respond r s) = respond r (countTick s) := rfl
  rw [tickStep, hcount, hwShutdown_respond, refreshAll_respond, protCheck_respond, controlTick_respond, tickStep]

end BusAnswer

/-- Settles O11: both steps run the tick sequence on the same ports; the command's has a bus transfer to answer. -/
theorem softwareTickEqualsHardwareTick : Obligations.SoftwareTickEqualsHardwareTick := by
  intro s p w rest hd
  refine ⟨tickStep { s with inputs := rest, ports := p, resp := .idle }, .write false, step_of_done rfl, ?_⟩
  rw [stepExecutesTheDecodedCommand _ p w rest _ rfl hd]
  exact congrArg Host.Outcome.next (tickStep_respond (.write false) { s with inputs := rest, ports := p, resp := .idle })

end Sys2Proof.Machine
end

section
/-!
The latch (42_protection.md R176, R181, R182, R185): which agent steps leave a Latched interlock as it is, and what that
holds the pins to over a run.
-/

namespace Sys2Proof.Machine

/-! ### The commands that write the latch -/

section LatchCommands

variable {s : State} {r : Nat}

theorem exec_pren (s : State) :
    exec .pren s = .next { s with prot := { s.prot with latched := false, reason := 0#8 } } := rfl

theorem exec_pshd_of_latched (h : s.prot.latched = true) : exec (.pshd r) s = .next s :=
  congrArg Host.Outcome.next (if_pos h)

theorem exec_pshd_of_armed (h : s.prot.latched = false) :
    exec (.pshd r) s = .next (enterLatch (if r = 0 then 1#8 else BitVec.ofNat 8 r) s) :=
  congrArg Host.Outcome.next (if_neg (by simp [h]))

end LatchCommands

/-- Settles O17: Armed, both fields already hold what `PREN` writes. -/
theorem prenClearsOnlyTheLatch : Obligations.PrenClearsOnlyTheLatch := by
  refine ⟨fun _ hop => decode_eq_ok_iff.mpr ⟨congrArg BitVec.toNat hop, trivial⟩, exec_pren, fun s hreason hl => ?_⟩
  have hprot : { s.prot with latched := false, reason := 0#8 } = s.prot := by rw [← hl, ← hreason hl]
  rw [exec_pren, hprot]

/-- Settles O18: the reason stands in the low byte of the word. -/
theorem pshdLatchesWhenArmed : Obligations.PshdLatchesWhenArmed := by
  refine ⟨fun w hop => decode_eq_ok_iff.mpr ⟨congrArg BitVec.toNat hop, ?_⟩, fun _ _ => exec_pshd_of_latched,
    fun _ _ hl _ => exec_pshd_of_armed hl⟩
  exact BitVec.extractLsb'_toNat 0 8 w

/-! ### A latch that stays -/

/-- Latched, with reason `r`. -/
def State.LatchedWith (r : BitVec 8) (s : State) : Prop := s.prot.latched = true ∧ s.prot.reason = r

section Latched

variable {r : BitVec 8} {s t : State} {i : Instr}

theorem latchedWith_of_prot_eq (h : t.prot = s.prot) (hs : s.LatchedWith r) : t.LatchedWith r := by
  rwa [State.LatchedWith, h]

theorem tickStep_latchedWith (hs : s.LatchedWith r) : (tickStep s).LatchedWith r :=
  latchedWith_of_prot_eq (tickStep_of_latched hs.1).1 hs

theorem writeReg_latchedWith (q : Reg) (v : Word) (hs : s.LatchedWith r) : (writeReg q v s).LatchedWith r := by
  rwa [State.LatchedWith, writeReg_latched, writeReg_reason]

/-- Of the commands only `PREN` re-enables; `PSHD` acts when Armed only, which `Effect` does not tell. -/
theorem exec_latchedWith (hx : exec i s = .next t) (hi : i ≠ .pren) (hs : s.LatchedWith r) : t.LatchedWith r := by
  cases exec_effect hx with
  | pren => exact absurd rfl hi
  | pshdArmed k q =>
    rw [exec_pshd_of_latched hs.1] at hx
    exact (Host.Outcome.next.inj hx) ▸ hs
  | tick => exact tickStep_latchedWith hs
  | pchk => rwa [protCheck_of_latched hs.1]
  | cstep x q u hu =>
    rw [compStep_ok hu]
    exact hs
  | gstep e =>
    rw [gdStep_eq]
    exact hs
  | _ => exact hs

end Latched

section LatchedSteps

variable {r : BitVec 8} {s t : State} {st : Stimulus} {rest : List Stimulus}

theorem ne_pren_of_mayUnlatch {w : Word} {i : Instr} (hst : st.mayUnlatch = false)
    (ha : st.action = .busWrite cmdAddr w) (hd : decode w = .ok i) : i ≠ .pren := by
  rintro rfl
  simp [Stimulus.mayUnlatch, ha, hd] at hst

/-- R176, one agent step. -/
theorem step_latchedWith (hi : s.inputs = st :: rest) (hst : st.mayUnlatch = false) (h : step s = .next t)
    (hs : s.LatchedWith r) : t.LatchedWith r := by
  rcases step_cases h with ⟨hn, -⟩ | ⟨st', rest', hi', hstep⟩
  · simp [hn] at hi
  obtain ⟨rfl, rfl⟩ : st' = st ∧ rest' = rest := by simpa [hi'] using hi
  have hp : (present st' rest' s).LatchedWith r := hs
  rcases hstep with ⟨a, -, rfl⟩ | ⟨a, v, -, -, rfl⟩ | ⟨v, i, ha, hd, hx⟩ | ⟨v, e, -, -, rfl⟩ | ⟨-, rfl⟩ | ⟨ha, -⟩
  · rcases busRead_cases a (present st' rest' s) with ⟨q, -, e⟩ | ⟨-, e⟩ <;> rw [e] <;> exact hp
  · rcases busWrite_cases a v (present st' rest' s) with ⟨q, -, e⟩ | ⟨-, e⟩ <;> rw [e]
    · exact writeReg_latchedWith q v hp
    · exact hp
  · exact exec_latchedWith hx (ne_pren_of_mayUnlatch hst ha hd) hp
  · exact hp
  · exact tickStep_latchedWith hp
  · simp [Stimulus.mayUnlatch, ha] at hst

end LatchedSteps

/-- Settles O20: the step keeps `LatchedWith` for the reason it starts with. -/
theorem latchedReasonIsStable : Obligations.LatchedReasonIsStable :=
  fun _ _ _ _ hi hl hst h => step_latchedWith hi hst h ⟨hl, rfl⟩

/-! ### A run of agent steps -/

section Runs

variable {r : BitVec 8} {s t : State} {i : Instr}

theorem Effect.inputs (h : Effect s i t) : t.inputs = s.inputs := by
  cases h with
  | tick => rw [tickStep_eq]
  | pchk => rw [protCheck_eq]
  | cstep x q u hu =>
    rw [compStep_ok hu]
    rfl
  | gstep e =>
    rw [gdStep_eq]
    rfl
  | _ => rfl

/-- A step takes the agent step in front of the queue, if there is one. -/
theorem step_inputs (h : step s = .next t) : t.inputs = s.inputs.tail := by
  rcases step_cases h with ⟨hn, rfl⟩ | ⟨st, rest, hi, hstep⟩
  · rw [hn, List.tail_nil]
  rw [hi, List.tail_cons]
  rcases hstep with ⟨a, -, rfl⟩ | ⟨a, v, -, -, rfl⟩ | ⟨v, i, -, -, hx⟩ | ⟨v, e, -, -, rfl⟩ | ⟨-, rfl⟩ | ⟨-, rfl⟩
  · rcases busRead_cases a (present st rest s) with ⟨q, -, e⟩ | ⟨-, e⟩ <;> rw [e] <;> rfl
  · rcases busWrite_cases a v (present st rest s) with ⟨q, -, e⟩ | ⟨-, e⟩ <;> rw [e]
    · exact writeReg_inputs q v _
    · rfl
  · exact (exec_effect hx).inputs
  · rfl
  · exact Effect.tick.inputs
  · rfl

/-- A run of one step more is a step and the run from there. -/
theorem run_succ_inv {k : Nat} (h : core.run (k + 1) s = .next t) : ∃ u, step s = .next u ∧ core.run k u = .next t := by
  cases hs : step s with
  | next u => exact ⟨u, rfl, (run_succ_of_step k hs).symm.trans h⟩
  | fault e => cases e
  | refused e =>
    have hcore : core.step s = .refused e := hs
    simp only [Host.Core.run, hcore] at h
    cases h

/-- R185: over any run whose agent steps cannot re-enable, a latch stays with its reason. -/
theorem run_latchedWith {n : Nat} (hs : s.LatchedWith r) (hst : ∀ st ∈ s.inputs.take n, st.mayUnlatch = false)
    (h : core.run n s = .next t) : t.LatchedWith r := by
  induction n generalizing s with
  | zero =>
    cases h
    exact hs
  | succ n ih =>
    obtain ⟨u, hstep, hrun⟩ := run_succ_inv h
    have hu := step_inputs hstep
    cases hi : s.inputs with
    | nil =>
      rcases step_cases hstep with ⟨-, rfl⟩ | ⟨_, _, hi', -⟩
      · exact ih hs (by simp [hi]) hrun
      · simp [hi'] at hi
    | cons st rest =>
      rw [hi, List.tail_cons] at hu
      rw [hi, List.take_succ_cons, List.forall_mem_cons] at hst
      obtain ⟨hfirst, hrest⟩ := hst
      exact ih (step_latchedWith hi hfirst hstep hs) (hu ▸ hrest) hrun

end Runs

/-! ### The pins -/

/-- `out_o[o]`, by R285. -/
theorem outO_iff (s : State) (o : Nat) :
    outO s o = true ↔ o < s.params.nOut ∧ s.prot.outEn.getLsbD o = true ∧ s.prot.latched = false := by
  simp [outO, and_assoc]

/-- `pwm_en_o`, by R285. -/
theorem pwmEnO_iff (s : State) : pwmEnO s = true ↔ s.ctrl.pwmEn = true ∧ s.prot.latched = false := by
  simp [pwmEnO]

theorem outO_of_armed {s : State} {o : Nat} (hl : s.prot.latched = false) (ho : o < s.params.nOut) :
    outO s o = s.prot.outEn.getLsbD o := by
  simp [outO, hl, ho]

theorem pwmEnO_of_armed {s : State} (hl : s.prot.latched = false) : pwmEnO s = s.ctrl.pwmEn := by
  simp [pwmEnO, hl]

theorem pinsOff_of_latched {s : State} (hl : s.prot.latched = true) : PinsOff s :=
  ⟨fun o => by simp [outO, hl], by simp [pwmEnO, hl]⟩

/-- Settles O21: the run keeps the latch, and a latch holds the pins off. -/
theorem pinsStayOffWhileLatched : Obligations.PinsStayOffWhileLatched := by
  refine ⟨fun s o => ⟨outO_iff s o, pwmEnO_iff s, outO_of_armed, pwmEnO_of_armed, rfl, id⟩, fun n s t hl hst h => ?_⟩
  have ht : t.LatchedWith s.prot.reason := run_latchedWith ⟨hl, rfl⟩ hst h
  obtain ⟨hout, hpwm⟩ := pinsOff_of_latched ht.1
  exact ⟨hout, hpwm, ht⟩

end Sys2Proof.Machine
end

section
/-!
The evaluation of the comparators (42_protection.md R172 to R175, R178, R180) and `OSET` (R183): what each policy's effect
writes, and that an evaluation repeated has nothing left to do.
-/

namespace Sys2Proof.Machine

/-! ### The comparators -/

/-- R175: the averages of at most 16 channels sum to at most 20 bits, with room to spare. -/
theorem abs_aggSum_le {s : State} (hlegal : s.params.Legal) (h : s.ChannelsConserved) : |aggSum s| ≤ 2 ^ 20 := by
  obtain ⟨⟨-, hch⟩, -⟩ := hlegal
  have hterm : ∀ c ∈ Finset.range s.params.nCh,
      |if s.prot.aggMask.getLsbD c then sext (s.chan c).avg else 0| ≤ 32768 := by
    intro c _
    obtain ⟨hlo, hhi⟩ := (chan_conserved h c).avg_bounds
    rw [abs_le]
    split <;> omega
  calc |aggSum s|
      ≤ ∑ c ∈ Finset.range s.params.nCh, |if s.prot.aggMask.getLsbD c then sext (s.chan c).avg else 0| := by
        rw [aggSum_eq]
        exact Finset.abs_sum_le_sum_abs _ _
    _ ≤ s.params.nCh • (32768 : Int) := by
        simpa only [Finset.card_range] using Finset.sum_le_card_nsmul _ _ _ hterm
    _ ≤ 2 ^ 20 := by
        rw [nsmul_eq_mul]
        omega

section Comparators

variable {x : Channel}

theorem breach_of_off (h : x.cfg.cmp = .off) : breach x = false := by simp [breach, h]

theorem breach_of_above (h : x.cfg.cmp = .above) : breach x = true ↔ sext x.avg > sext x.limit := by simp [breach_iff, h]

theorem breach_of_band (h : x.cfg.cmp = .band) :
    breach x = true ↔ sext x.avg > sext x.limit ∨ sext x.avg < -sext x.limit := by simp [breach_iff, h]

theorem breach_of_below (h : x.cfg.cmp = .below) : breach x = true ↔ sext x.avg < sext x.limit := by simp [breach_iff, h]

/-- R184: a negative limit leaves no value inside the band. -/
theorem breach_of_band_of_neg (h : x.cfg.cmp = .band) (hl : sext x.limit < 0) : breach x = true := by
  rw [breach_of_band h]
  omega

/-- The band is the magnitude's comparison, strict at both ends whatever the limit's sign. -/
theorem breach_of_band_iff_abs (h : x.cfg.cmp = .band) : breach x = true ↔ sext x.limit < |sext x.avg| := by
  rw [breach_of_band h, lt_abs, lt_neg, gt_iff_lt]

end Comparators

/-- Settles O14: mode by mode, and the aggregate through its exact sum. -/
theorem comparatorBoundariesAreStrict : Obligations.ComparatorBoundariesAreStrict := by
  refine ⟨fun s => ?_, fun s hlegal _ h => ?_, fun x => ⟨breach_of_off, breach_of_above, breach_of_band, breach_of_below,
    breach_of_band_of_neg, fun hband _ => breach_of_band_iff_abs hband⟩⟩
  · rw [aggBreach_iff, aggSum_eq]
    rfl
  · have hsum := abs_aggSum_le hlegal h
    rw [aggSum_eq] at hsum
    exact hsum

/-! ### What the policies write -/

section Effects

variable {h : List Nat} {a : Bool} {s : State}

theorem anyBreach_eq_false_iff : anyBreach h a = false ↔ h = [] ∧ a = false := by simp [anyBreach]

/-- With nothing found nothing is recorded. -/
theorem recordTrips_of_none (hn : anyBreach h a = false) : recordTrips h a s = s := by
  obtain ⟨rfl, rfl⟩ := anyBreach_eq_false_iff.mp hn
  simp [recordTrips, bitsOf]

theorem latchEffect_of_none (hn : anyBreach h a = false) : latchEffect h a s = s := by
  simp [latchEffect, hn, recordTrips_of_none hn]

theorem latchEffect_of_breach (hb : anyBreach h a = true) :
    latchEffect h a s = enterLatch (latchReason h a s) (recordTrips h a s) := if_pos hb

/-- `OUT_EN` after an evaluation under the channel-tripping policy (R174). -/
def openedOutEn (h : List Nat) (a : Bool) (s : State) : BitVec 16 :=
  if a then 0#16 else s.prot.outEn &&& ~~~bitsOf (h.filter fun c => decide (c < s.params.nOut))

/-- The channel-tripping effect, field by field. -/
theorem tripEffect_eq (h : List Nat) (a : Bool) (s : State) :
    tripEffect h a s = { s with
      events := if anyBreach h a then s.events ||| evTrip else s.events
      prot := { s.prot with
        trip := s.prot.trip ||| bitsOf h, tripAgg := s.prot.tripAgg || a, outEn := openedOutEn h a s } } := by
  unfold tripEffect
  simp only []
  split <;> rfl

/-- The recorded channels of an evaluation, bit by bit. -/
theorem getLsbD_recordedTrip (s : State) {c : Nat} (hc : c < 16) :
    (s.prot.trip ||| bitsOf (breaching s)).getLsbD c = true ↔
      s.prot.trip.getLsbD c = true ∨ (c < s.params.nCh ∧ breach (s.chan c) = true) := by
  rw [BitVec.getLsbD_or, getLsbD_bitsOf _ _ hc, Bool.or_eq_true, decide_eq_true_eq, mem_breaching]

/-- The outputs that stay on, bit by bit: none for the aggregate, else those whose channel does not breach. -/
theorem getLsbD_openedOutEn (s : State) {o : Nat} (ho : o < 16) :
    (openedOutEn (breaching s) (aggBreach s) s).getLsbD o = true ↔
      s.prot.outEn.getLsbD o = true ∧ aggBreach s = false ∧
        ¬(o < s.params.nCh ∧ o < s.params.nOut ∧ breach (s.chan o) = true) := by
  unfold openedOutEn
  cases aggBreach s with
  | true => simp
  | false =>
    have hmem : o ∈ (breaching s).filter (fun c => decide (c < s.params.nOut)) ↔
        o < s.params.nCh ∧ o < s.params.nOut ∧ breach (s.chan o) = true := by
      rw [List.mem_filter, mem_breaching, decide_eq_true_eq, and_assoc, and_comm (a := breach _ = true)]
    rw [← hmem, if_neg Bool.false_ne_true, BitVec.getLsbD_and, BitVec.getLsbD_not, getLsbD_bitsOf _ _ ho]
    simp only [ho, decide_true, Bool.true_and, Bool.and_eq_true, Bool.not_eq_true', decide_eq_false_iff_not, true_and]

end Effects

/-! ### `PCHK` -/

theorem exec_pchk (s : State) : exec .pchk s = .next (protCheck s) := rfl

section Pchk

variable {s : State}

theorem protCheck_of_latching (he : s.prot.en = true) (hl : s.prot.latched = false) (hp : s.prot.policy = .latching) :
    protCheck s = latchEffect (breaching s) (aggBreach s) s := by
  rw [protCheck, if_pos he, protEval_of_latching hl hp]

theorem protCheck_of_tripping (he : s.prot.en = true) (hl : s.prot.latched = false) (hp : s.prot.policy = .tripping) :
    protCheck s = tripEffect (breaching s) (aggBreach s) s := by
  rw [protCheck, if_pos he, protEval_of_tripping hl hp]

theorem tripEffect_idem (h : List Nat) (a : Bool) (s : State) :
    tripEffect h a (tripEffect h a s) = tripEffect h a s := by
  have hout : openedOutEn h a (tripEffect h a s) = openedOutEn h a s := by
    rw [tripEffect_eq]
    cases a <;> simp [openedOutEn, BitVec.and_assoc]
  rw [tripEffect_eq h a (tripEffect h a s), hout, tripEffect_eq h a s]
  cases anyBreach h a <;> simp [BitVec.or_assoc]

/-- R180: an evaluation repeated finds the same breaches, and their effect is already there. -/
theorem protCheck_idem (s : State) : protCheck (protCheck s) = protCheck s := by
  cases he : s.prot.en with
  | false => rw [protCheck_of_disabled he, protCheck_of_disabled he]
  | true =>
    cases hl : s.prot.latched with
    | true => rw [protCheck_of_latched hl, protCheck_of_latched hl]
    | false =>
      cases hp : s.prot.policy with
      | latching =>
        rw [protCheck_of_latching he hl hp]
        cases hb : anyBreach (breaching s) (aggBreach s) with
        | false => rw [latchEffect_of_none hb, protCheck_of_latching he hl hp, latchEffect_of_none hb]
        | true =>
          rw [latchEffect_of_breach hb]
          exact protCheck_of_latched rfl
      | tripping =>
        rw [protCheck_of_tripping he hl hp]
        have hbreach : breaching (tripEffect (breaching s) (aggBreach s) s) = breaching s := by
          rw [tripEffect_eq]
          rfl
        have hagg : aggBreach (tripEffect (breaching s) (aggBreach s) s) = aggBreach s := by
          rw [tripEffect_eq]
          rfl
        rw [protCheck_of_tripping (by rw [tripEffect_eq, he]) (by rw [tripEffect_eq, hl]) (by rw [tripEffect_eq, hp]),
          hbreach, hagg, tripEffect_idem]

end Pchk

/-- Settles O15: the evaluation under the latching policy, with and without a breach. -/
theorem pchkLatchesUnderTheLatchingPolicy : Obligations.PchkLatchesUnderTheLatchingPolicy := by
  refine ⟨fun _ hop => decode_eq_ok_iff.mpr ⟨congrArg BitVec.toNat hop, trivial⟩, fun s h => ?_,
    fun s he hl hp => ⟨fun hnone hagg => ?_, fun hb => ?_⟩⟩
  · rw [exec_pchk]
    rcases h with he | hl
    · rw [protCheck_of_disabled he]
    · rw [protCheck_of_latched hl]
  · have hb : anyBreach (breaching s) (aggBreach s) = false := by
      rw [← Bool.not_eq_true, anyBreach_iff]
      simp only [hagg, Bool.false_eq_true, or_false, not_exists, not_and, Bool.not_eq_true]
      exact hnone
    rw [exec_pchk, protCheck_of_latching he hl hp, latchEffect_of_none hb]
  · refine ⟨s.prot.trip ||| bitsOf (breaching s), ?_, fun c hc => getLsbD_recordedTrip s hc⟩
    rw [exec_pchk, protCheck_of_latching he hl hp, latchEffect_of_breach ((anyBreach_iff s).mpr hb), latchReason_eq]
    rfl

/-- Settles O16: the evaluation under the channel-tripping policy, and its repetition. -/
theorem pchkOpensOutputsUnderTheTrippingPolicy : Obligations.PchkOpensOutputsUnderTheTrippingPolicy := by
  refine ⟨fun s he hl hp => ?_, fun s t h => ?_⟩
  · refine ⟨s.prot.trip ||| bitsOf (breaching s), openedOutEn (breaching s) (aggBreach s) s,
      if anyBreach (breaching s) (aggBreach s) then s.events ||| evTrip else s.events, ?_, fun hb => ?_, fun hb => ?_,
      fun c hc => getLsbD_recordedTrip s hc, fun o ho => getLsbD_openedOutEn s ho⟩
    · rw [exec_pchk, protCheck_of_tripping he hl hp, tripEffect_eq]
    · exact if_pos ((anyBreach_iff s).mpr hb)
    · exact if_neg (mt (anyBreach_iff s).mp hb)
  · cases h
    exact congrArg Host.Outcome.next (protCheck_idem s)

/-! ### `OSET` -/

section Oset

variable {s : State} {o : Nat} {b : Bool}

theorem exec_oset_of_ge (h : s.params.nOut ≤ o) : exec (.oset o b) s = .next (recordError .badIndex s) :=
  congrArg (fun r => Host.Outcome.next (settle s r)) (if_neg (Nat.not_lt.mpr h))

theorem exec_oset_of_lt (h : o < s.params.nOut) :
    exec (.oset o b) s = .next { s with prot := { s.prot with
      outEn := writeBit s.prot.outEn o b, trip := if b then writeBit s.prot.trip o false else s.prot.trip } } :=
  congrArg (fun r => Host.Outcome.next (settle s r)) (if_pos h)

end Oset

/-- Settles O19: both registers change at bit `o` alone. -/
theorem osetSwitchesOneOutput : Obligations.OsetSwitchesOneOutput := by
  refine ⟨fun _ hop => decode_eq_ok_iff.mpr ⟨congrArg BitVec.toNat hop, rfl, rfl⟩, fun _ _ _ => exec_oset_of_ge,
    fun s o b ho => ⟨_, _, exec_oset_of_lt ho, fun j hj => ⟨getLsbD_writeBit _ _ _ _ hj, ?_⟩⟩⟩
  cases b with
  | false => simp
  | true => simp [getLsbD_writeBit _ _ _ _ hj]

end Sys2Proof.Machine
end

section
/-!
`DUTY` (43_control.md R200, R231). Every operation either leaves it alone or stores a value clamped to `[S, 99·S]`
(`DutyStep`), so a legal build never leaves that range; the frame says which operations leave it alone.
-/

namespace Sys2Proof.Machine

/-! ### What an operation can do to `DUTY` -/

/-- From `s` to `t` the build stays, and `DUTY` stays or takes a clamped value. -/
def DutyStep (s t : State) : Prop :=
  t.params = s.params ∧ (t.ctrl.duty = s.ctrl.duty ∨ ∃ v, t.ctrl.duty = (setDuty v s).ctrl.duty)

/-- A state of a legal build whose `DUTY` is within R231's range. -/
def State.LegalDuty (s : State) : Prop := s.params.Legal ∧ s.DutyInRange

section DutySteps

variable {s t u : State}

theorem dutyStep_of_eq (hp : t.params = s.params) (hd : t.ctrl.duty = s.ctrl.duty) : DutyStep s t := ⟨hp, .inl hd⟩

/-- The range of `DUTY` is read from the parameters alone. -/
theorem setDuty_duty_congr (hp : t.params = s.params) (v : Int) :
    (setDuty v t).ctrl.duty = (setDuty v s).ctrl.duty := by
  simp only [setDuty, State.scale, hp]

theorem DutyStep.trans (h : DutyStep s t) (h' : DutyStep t u) : DutyStep s u := by
  obtain ⟨hp, hd⟩ := h
  obtain ⟨hp', hd' | ⟨v, hv⟩⟩ := h'
  · exact ⟨hp'.trans hp, by rwa [hd']⟩
  · exact ⟨hp'.trans hp, .inr ⟨v, hv.trans (setDuty_duty_congr hp v)⟩⟩

theorem DutyStep.legalDuty (h : DutyStep s t) (hs : s.LegalDuty) : t.LegalDuty := by
  obtain ⟨legal, hduty⟩ := hs
  obtain ⟨hp, hd | ⟨v, hv⟩⟩ := h
  · simpa only [State.LegalDuty, State.DutyInRange, State.scale, hp, hd] using And.intro legal hduty
  · have hset : (setDuty v s).DutyInRange := setDuty_dutyInRange v s legal
    simpa only [State.LegalDuty, State.DutyInRange, State.scale, setDuty_params, hp, hv] using And.intro legal hset

/-! ### The operations -/

theorem compStep_dutyStep {x : Int} (h : compStep x s = .ok t) : DutyStep s t := by
  rw [compStep_ok h]
  exact ⟨rfl, .inr ⟨_, rfl⟩⟩

theorem gdStep_dutyStep (e : Int) (s : State) : DutyStep s (gdStep e s) := by
  rcases gdStep_cases e s with ⟨-, -, h⟩ | ⟨-, -, -, h⟩ | ⟨-, t, rfl, ⟨-, h⟩ | ⟨-, h⟩ | ⟨-, h⟩⟩ <;> rw [h]
  case inr.inr.inl | inr.inr.inr.inl => exact ⟨rfl, .inr ⟨_, rfl⟩⟩
  all_goals exact dutyStep_of_eq rfl rfl

theorem tickReference_dutyStep (s : State) : DutyStep s (tickReference s) := by
  rw [tickReference_eq]
  exact dutyStep_of_eq rfl rfl

theorem controlTick_dutyStep (s : State) : DutyStep s (controlTick s) := by
  have href := tickReference_dutyStep s
  rcases controlTick_cases s with ⟨-, h⟩ | ⟨-, -, h⟩ | ⟨-, -, h⟩ <;> rw [h]
  · exact dutyStep_of_eq rfl rfl
  · rcases settle_cases s (compStep (controlError (tickReference s)) (tickReference s)) with
      ⟨t, ht, e⟩ | ⟨k, -, e⟩ <;> rw [e]
    · exact href.trans (compStep_dutyStep ht)
    · exact dutyStep_of_eq rfl rfl
  · exact href.trans (gdStep_dutyStep _ _)

/-- Of the phases of a tick only the last one writes `DUTY`. -/
theorem tickStep_dutyStep (s : State) : DutyStep s (tickStep s) := by
  have hbefore : DutyStep s (protCheck (sensed s)) := by
    rw [protCheck_eq, sensed_eq]
    exact dutyStep_of_eq rfl rfl
  exact hbefore.trans (controlTick_dutyStep _)

theorem writeReg_dutyStep (r : Reg) (v : Word) (s : State) : DutyStep s (writeReg r v s) := by
  cases r with
  | duty => exact ⟨rfl, .inr ⟨_, rfl⟩⟩
  | _ => exact dutyStep_of_eq rfl rfl

theorem writeReg_duty_of_ne {r : Reg} (h : r ≠ .duty) (v : Word) (s : State) :
    (writeReg r v s).ctrl.duty = s.ctrl.duty := by
  cases r with
  | duty => exact absurd rfl h
  | _ => rfl

/-- The commands that R231 does not name leave `DUTY` alone. -/
theorem Effect.duty {i : Instr} (h : Effect s i t) (hi : writesDuty i = false) (htick : i ≠ .tick) :
    t.ctrl.duty = s.ctrl.duty := by
  cases h with
  | tick => exact absurd rfl htick
  | pchk => rw [protCheck_eq]
  | cstep | gstep => cases hi
  | _ => rfl

theorem Effect.dutyStep {i : Instr} (h : Effect s i t) : DutyStep s t := by
  cases h with
  | tick => exact tickStep_dutyStep s
  | pchk =>
    rw [protCheck_eq]
    exact dutyStep_of_eq rfl rfl
  | cstep x r u hu => exact (compStep_dutyStep hu).trans (dutyStep_of_eq rfl rfl)
  | gstep e => exact (gdStep_dutyStep e s).trans (dutyStep_of_eq rfl rfl)
  | _ => exact dutyStep_of_eq rfl rfl

end DutySteps

/-! ### Every step -/

theorem resetWith_legalDuty {p : Params} (h : p.Legal) : (State.resetWith p).LegalDuty := by
  obtain ⟨-, -, -, duty, -⟩ := inv_resetWith h
  exact ⟨h, duty⟩

theorem kept_legalDuty : Kept State.LegalDuty where
  transfer _ _ _ _ h := h
  record _ _ h := h
  write r v u := (writeReg_dutyStep r v u).legalDuty
  command _ _ _ _ he := he.dutyStep.legalDuty
  reset _ h := resetWith_legalDuty h.1

/-- `DUTY` stands at one address (R83). -/
theorem regAt_duty {p : Params} {a : Addr} (h : regAt p a = some .duty) : a = 0x064#13 :=
  BitVec.eq_of_toNat_eq (offset_of_regAt h).symm

/-- Settles O53: every operation is a `DutyStep`, and those that R231 does not name leave `DUTY` alone. -/
theorem dutyStaysInRange : Obligations.DutyStaysInRange := by
  refine ⟨fun p hp => (resetWith_legalDuty hp).2, fun s t legal hd h => (kept_legalDuty.step h ⟨legal, hd⟩).2, ?_⟩
  intro s t st rest hi h hr ht hw hcmd
  refine agentStep_frame (fun u => u.ctrl.duty) hi h hr (fun _ _ _ _ => rfl) (fun _ _ => rfl) ?write ?command ?tick
  case write =>
    intro a v r u ha hat
    apply writeReg_duty_of_ne
    rintro rfl
    simp [Stimulus.writes, ha, regAt_duty hat] at hw
  case command =>
    intro i u v hc he
    have htick : i ≠ .tick := by
      rintro rfl
      simp [ticks_of_command_tick hc] at ht
    exact he.duty (hcmd i hc) htick
  case tick =>
    intro u ha
    simp [Stimulus.ticks, ha] at ht

end Sys2Proof.Machine
end

section
/-!
The compensator (43_control.md R201 to R204, R210): the difference equation as sums over the coefficients, its bound, and
the commands `CSTEP` and `CRST`.
-/

namespace Sys2Proof.Machine

/-! ### When a compensator step is refused -/

/-- Both coefficient lengths lie in `1..COEF_MAX` (R70). -/
def Comp.LengthsLegal (k : Comp) (p : Params) : Prop :=
  (1 ≤ k.numLen.toNat ∧ k.numLen.toNat ≤ p.coefMax) ∧ 1 ≤ k.denLen.toNat ∧ k.denLen.toNat ≤ p.coefMax

section Refusals

variable {s : State} {x : Int}

theorem lenBad_eq_false_iff (p : Params) (n : BitVec 4) :
    lenBad p n = false ↔ 1 ≤ n.toNat ∧ n.toNat ≤ p.coefMax := by
  rw [← Bool.not_eq_true, lenBad_iff]
  omega

/-- The four ways a length can be illegal. -/
theorem not_lengthsLegal_iff {k : Comp} {p : Params} :
    ¬k.LengthsLegal p ↔ k.numLen.toNat < 1 ∨ p.coefMax < k.numLen.toNat ∨ k.denLen.toNat < 1 ∨
      p.coefMax < k.denLen.toNat := by
  unfold Comp.LengthsLegal
  omega

theorem den0_eq_zero_iff (s : State) : den0 s = 0 ↔ s.comp.den.getD 0 0#16 = 0#16 := by
  rw [← BitVec.toInt_inj]
  rfl

theorem compStep_of_badConfig (h : ¬s.comp.LengthsLegal s.params) : compStep x s = .error .badConfig := by
  have hbad : lenBad s.params s.comp.numLen = true ∨ lenBad s.params s.comp.denLen = true := by
    rw [lenBad_iff, lenBad_iff]
    have hways := not_lengthsLegal_iff.mp h
    omega
  exact if_pos (by simpa using hbad)

theorem compStep_of_divZero (h : s.comp.LengthsLegal s.params) (hden : s.comp.den.getD 0 0#16 = 0#16) :
    compStep x s = .error .divZero := by
  obtain ⟨hn, hd⟩ := h
  have hden0 := (den0_eq_zero_iff s).mpr hden
  simp [compStep, (lenBad_eq_false_iff _ _).mpr hn, (lenBad_eq_false_iff _ _).mpr hd, hden0]

/-- The step that is not refused (R202). -/
theorem compStep_of_legal (h : s.comp.LengthsLegal s.params) (hden : s.comp.den.getD 0 0#16 ≠ 0#16) :
    compStep x s = .ok (setDuty (compOut x s) { s with comp := { s.comp with
      xh := pushHist s.params (BitVec.ofInt 16 x) s.comp.xh
      yh := pushHist s.params (BitVec.ofInt 32 (compOut x s)) s.comp.yh } }) := by
  obtain ⟨hn, hd⟩ := h
  have hden0 := mt (den0_eq_zero_iff s).mp hden
  simp [compStep, (lenBad_eq_false_iff _ _).mpr hn, (lenBad_eq_false_iff _ _).mpr hd, hden0]

theorem exec_cstep (x : Int) (s : State) :
    exec (.cstep x) s = .next (settle s ((compStep x s).map (withResult (BitVec.ofInt 32 (compOut x s))))) := rfl

theorem exec_cstep_of_error {k : Err} (h : compStep x s = .error k) : exec (.cstep x) s = .next (recordError k s) := by
  rw [exec_cstep, h]
  rfl

theorem exec_cstep_of_ok {t : State} (h : compStep x s = .ok t) :
    exec (.cstep x) s = .next { t with result := BitVec.ofInt 32 (compOut x s) } := by
  rw [exec_cstep, h]
  rfl

end Refusals

/-- Settles O23: the lengths are checked before `DEN[0]`, and either error abandons the step. -/
theorem cstepRefusesBadConfiguration : Obligations.CstepRefusesBadConfiguration :=
  fun _ _ => ⟨fun h => exec_cstep_of_error (compStep_of_badConfig (not_lengthsLegal_iff.mpr h)),
    fun hn hn' hd hd' hden => exec_cstep_of_error (compStep_of_divZero ⟨⟨hn, hn'⟩, hd, hd'⟩ hden)⟩

/-! ### The difference equation -/

section Sums

variable {w : Nat}

theorem dot_cons (u : Half) (v : BitVec w) (a : List Half) (b : List (BitVec w)) :
    dot (u :: a) (v :: b) = sext u * sext v + dot a b := rfl

/-- A product of the first `n` entries, entry by entry; a missing entry counts as 0. -/
theorem dot_take (n : Nat) (a : List Half) (b : List (BitVec w)) :
    dot (a.take n) b = ∑ i ∈ Finset.range n, sext (a.getD i 0#16) * sext (b.getD i 0#w) := by
  have hzero (w : Nat) : sext 0#w = 0 := BitVec.toInt_zero
  induction n generalizing a b with
  | zero => rfl
  | succ n ih =>
    cases a with
    | nil => simp [dot, hzero]
    | cons u a =>
      cases b with
      | nil => simp [dot, hzero]
      | cons v b =>
        rw [List.take_succ_cons, dot_cons, ih, Finset.sum_range_succ', add_comm]
        rfl

/-- Each product is at most `2^15` times the largest magnitude of the other factor. -/
theorem abs_dot_le (a : List Half) (b : List (BitVec w)) {m : Int} (hb : ∀ v ∈ b, |sext v| ≤ m) (hm : 0 ≤ m) :
    |dot a b| ≤ a.length * (32768 * m) := by
  induction a generalizing b with
  | nil => simp [dot]
  | cons u a ih =>
    cases b with
    | nil =>
      have hnil : dot (u :: a) ([] : List (BitVec w)) = 0 := rfl
      rw [hnil, abs_zero]
      positivity
    | cons v b =>
      obtain ⟨hv, hb⟩ := List.forall_mem_cons.mp hb
      have hu : |sext u| ≤ 32768 := by
        have := sext16_bounds u
        rw [abs_le]
        omega
      have hprod : |sext u * sext v| ≤ 32768 * m := by
        rw [abs_mul]
        exact mul_le_mul hu hv (abs_nonneg _) (by decide)
      have hrest := ih b hb
      rw [dot_cons]
      calc |sext u * sext v + dot a b|
          ≤ |sext u * sext v| + |dot a b| := abs_add_le _ _
        _ ≤ 32768 * m + a.length * (32768 * m) := add_le_add hprod hrest
        _ = (u :: a).length * (32768 * m) := by
            rw [List.length_cons]
            push_cast
            ring

theorem getD_pushHist {p : Params} {i : Nat} (hi : i < p.coefMax) (v : BitVec w) (h : List (BitVec w)) :
    (pushHist p v h).getD i 0#w = if i = 0 then v else h.getD (i - 1) 0#w := by
  rw [pushHist, List.getD_eq_getElem?_getD, List.getElem?_take_of_lt hi]
  cases i <;> simp

/-- A full history shifts by one: the newest entry in front, the oldest gone (R72). -/
theorem pushHist_eq {p : Params} (hp : 1 ≤ p.coefMax) (v : BitVec w) {h : List (BitVec w)}
    (hl : h.length = p.coefMax) : pushHist p v h = v :: h.dropLast := by
  obtain ⟨k, hk⟩ := Nat.exists_eq_add_of_le' hp
  rw [pushHist, hk, List.take_succ_cons, List.dropLast_eq_take, hl, hk, Nat.add_sub_cancel]

end Sums

section Equation

variable {s : State} {x : Int}

/-- `acc` of R202, coefficient by coefficient, with the newest input in front of the history. -/
theorem compSum_eq (hn : s.comp.numLen.toNat ≤ s.params.coefMax) (hx : -32768 ≤ x ∧ x ≤ 32767) :
    compSum s.comp (pushHist s.params (BitVec.ofInt 16 x) s.comp.xh) =
      (∑ i ∈ Finset.range s.comp.numLen.toNat,
          sext (s.comp.num.getD i 0#16) * (if i = 0 then x else sext (s.comp.xh.getD (i - 1) 0#16))) -
        ∑ i ∈ Finset.range (s.comp.denLen.toNat - 1),
          sext (s.comp.den.getD (i + 1) 0#16) * sext (s.comp.yh.getD i 0#32) := by
  have hden (i : Nat) : (s.comp.den.drop 1).getD i 0#16 = s.comp.den.getD (i + 1) 0#16 := by
    simp [List.getD_eq_getElem?_getD]
  rw [compSum, List.drop_take, dot_take, dot_take]
  simp only [hden]
  congr 1
  refine Finset.sum_congr rfl fun i hi => ?_
  rw [getD_pushHist (lt_of_lt_of_le (Finset.mem_range.mp hi) hn), apply_ite sext, sext_ofInt16 x hx.1 hx.2]

/-- R203: the exact sum needs at most 50 bits. -/
theorem abs_compSum_lt (hp : s.params.Legal) (h : s.comp.LengthsLegal s.params) (xh : List Half) :
    |compSum s.comp xh| < 2 ^ 50 := by
  obtain ⟨-, -, ⟨-, hmax⟩, -⟩ := hp
  obtain ⟨⟨-, hn⟩, -, hd⟩ := h
  have hx : |dot (s.comp.num.take s.comp.numLen.toNat) xh| ≤
      (s.comp.num.take s.comp.numLen.toNat).length * (32768 * 32768) := by
    refine abs_dot_le _ _ (fun v _ => ?_) (by decide)
    have := sext16_bounds v
    rw [abs_le]
    omega
  have hy : |dot ((s.comp.den.take s.comp.denLen.toNat).drop 1) s.comp.yh| ≤
      ((s.comp.den.take s.comp.denLen.toNat).drop 1).length * (32768 * 2147483648) := by
    refine abs_dot_le _ _ (fun v _ => ?_) (by decide)
    have := sext32_bounds v
    rw [abs_le]
    omega
  have hsub := abs_sub (dot (s.comp.num.take s.comp.numLen.toNat) xh)
    (dot ((s.comp.den.take s.comp.denLen.toNat).drop 1) s.comp.yh)
  rw [List.length_take] at hx
  rw [List.length_drop, List.length_take] at hy
  unfold compSum
  omega

end Equation

/-- Settles O22: the state of `compStep_of_legal`, with the sum written out and the histories full. -/
theorem cstepEvaluatesTheDifferenceEquation : Obligations.CstepEvaluatesTheDifferenceEquation := by
  refine ⟨fun _ hop => decode_eq_ok_iff.mpr ⟨congrArg BitVec.toNat hop, rfl⟩,
    fun s x hp ⟨_, _, _, hxh, hyh⟩ hlo hhi hn hn' hd hd' hden => ?_⟩
  have hlegal : s.comp.LengthsLegal s.params := ⟨⟨hn, hn'⟩, hd, hd'⟩
  obtain ⟨-, -, ⟨hmax, -⟩, -⟩ := id hp
  refine ⟨compSum s.comp (pushHist s.params (BitVec.ofInt 16 x) s.comp.xh), compOut x s,
    (setDuty (compOut x s) s).ctrl.duty, compSum_eq hn' ⟨hlo, hhi⟩, abs_compSum_lt hp hlegal _, rfl,
    sext_setDuty (compOut x s) s hp, ?_⟩
  rw [exec_cstep_of_ok (compStep_of_legal hlegal hden), pushHist_eq hmax _ hxh, pushHist_eq hmax _ hyh]
  rfl

/-! ### The identity compensator -/

/-- The compensator of R204. -/
def Comp.Identity (k : Comp) : Prop :=
  k.numLen = 1#4 ∧ k.denLen = 1#4 ∧ k.num.getD 0 0#16 = 1#16 ∧ k.den.getD 0 0#16 = 1#16

section Identity

variable {s : State} {x : Int}

theorem Comp.Identity.lengthsLegal {p : Params} (hp : p.Legal) {k : Comp} (h : k.Identity) : k.LengthsLegal p := by
  obtain ⟨hn, hd, -⟩ := h
  obtain ⟨-, -, ⟨hmax, -⟩, -⟩ := hp
  simp [Comp.LengthsLegal, hn, hd, hmax]

/-- The sum has the one term `1·x`, and dividing by 1 and saturating keep it. -/
theorem compOut_of_identity (hp : s.params.Legal) (h : s.comp.Identity) (hx : -32768 ≤ x ∧ x ≤ 32767) :
    compOut x s = x := by
  obtain ⟨⟨-, hn⟩, -⟩ := h.lengthsLegal hp
  obtain ⟨hnum, hden, hnum0, hden0⟩ := h
  have hone : sext 1#16 = 1 := rfl
  have hsum : compSum s.comp (pushHist s.params (BitVec.ofInt 16 x) s.comp.xh) = x := by
    rw [compSum_eq hn hx]
    simp [hnum, hden, hnum0, hone, -List.getD_eq_getElem?_getD]
  have hquot : tdiv x 1 = x := Int.tdiv_one x
  rw [compOut, hsum, den0, hden0, hone, hquot]
  exact sat_eq_self 32 x (by omega) (by omega)

end Identity

/-- Settles O24: the step is not refused, its output is `x`, and it keeps the coefficients and lengths. -/
theorem identityCompensatorReturnsItsInput : Obligations.IdentityCompensatorReturnsItsInput := by
  refine ⟨fun s x hp hlo hhi hn hd hnum hden => ?_, fun p _ => ⟨rfl, rfl, rfl, rfl⟩⟩
  have hid : s.comp.Identity := ⟨hn, hd, hnum, hden⟩
  have hout := compOut_of_identity hp hid ⟨hlo, hhi⟩
  have hstep := compStep_of_legal (x := x) (hid.lengthsLegal hp) (by rw [hden]; decide)
  have hexec := exec_cstep_of_ok hstep
  rw [hout] at hstep hexec
  exact ⟨hout, _, hstep, hexec, sext_ofInt32 x (by omega) (by omega), sext_setDuty x s hp, hn, hd, rfl, rfl⟩

/-! ### `CRST` -/

theorem exec_crst (s : State) :
    exec .crst s = .next { s with comp := { s.comp with
      xh := List.replicate s.params.coefMax 0#16, yh := List.replicate s.params.coefMax s.ctrl.duty } } := rfl

/-- Settles O25: both histories are constant lists of `COEF_MAX` entries. -/
theorem crstSeedsTheHistories : Obligations.CrstSeedsTheHistories :=
  ⟨fun _ hop => decode_eq_ok_iff.mpr ⟨congrArg BitVec.toNat hop, trivial⟩, fun s =>
    ⟨_, _, exec_crst s, List.length_replicate, List.length_replicate, fun _ hj => List.getD_replicate _ hj,
      fun _ hj => List.getD_replicate _ hj⟩⟩

end Sys2Proof.Machine
end

section
/-!
The gradient-descent stepper (43_control.md R221 to R224): each kind of call as one equation, the registers after any
number of calls with one error (`Gd.afterCalls`), and the commands `GSTEP` and `GFRC`.
-/

namespace Sys2Proof.Machine

/-! ### One call -/

/-- The stepper with its counters at 0 and no trigger pending, as the completing call leaves it (R223). -/
def Gd.restarted (g : Gd) : Gd := { g with setCnt := 0#16, avgCnt := 0#16, acc := 0#32, force := false }

section Calls

variable {s : State} {e : Int}

theorem ofNat_toNat_succ {w : Nat} (v : BitVec w) : BitVec.ofNat w (v.toNat + 1) = v + BitVec.ofNat w 1 := by
  rw [BitVec.ofNat_add, BitVec.ofNat_toNat, BitVec.setWidth_eq]

theorem gdStep_of_settling (hf : s.gd.force = false) (h : s.gd.setCnt.toNat < s.gd.settle.toNat) :
    gdStep e s = { s with gd := { s.gd with setCnt := s.gd.setCnt + 1#16 } } := by
  simp only [gdStep, hf, h, Bool.not_false, decide_true, Bool.and_self, if_true, ofNat_toNat_succ]

theorem gdStep_of_accumulating (hf : s.gd.force = false) (h : s.gd.settle.toNat ≤ s.gd.setCnt.toNat)
    (hcnt : s.gd.avgCnt.toNat + 1 < s.gd.avg.toNat) :
    gdStep e s = { s with gd := { s.gd with
      acc := BitVec.ofInt 32 (sext s.gd.acc + e), avgCnt := s.gd.avgCnt + 1#16 } } := by
  simp [gdStep, hf, hcnt, Nat.not_lt.mpr h, ofNat_toNat_succ]

/-- A `DUTY` in its range is stored unchanged. -/
theorem setDuty_self (h : s.DutyInRange) : setDuty (sext s.ctrl.duty) s = s := by
  have hclamp : clamp (sext s.ctrl.duty) s.scale (99 * s.scale) = sext s.ctrl.duty := by
    obtain ⟨hlo, hhi⟩ := h
    unfold clamp
    omega
  rw [setDuty, hclamp, ofInt_sext]

/-- The completing call: `DUTY` moves by `S` in the direction of the mean, and by nothing for a mean of 0 (R223). -/
theorem gdStep_of_completing (hd : s.DutyInRange)
    (h : s.gd.force = true ∨ (s.gd.settle.toNat ≤ s.gd.setCnt.toNat ∧ s.gd.avg.toNat ≤ s.gd.avgCnt.toNat + 1)) :
    gdStep e s = setDuty
      (sext s.ctrl.duty + s.scale * Int.sign (tdiv (sext s.gd.acc + e) (s.gd.avgCnt.toNat + 1)))
      { s with gd := s.gd.restarted } := by
  have hcast : ((s.gd.avgCnt.toNat + 1 : Nat) : Int) = s.gd.avgCnt.toNat + 1 := by push_cast; rfl
  rcases gdStep_cases e s with ⟨hf, hset, -⟩ | ⟨hf, -, hcnt, -⟩ | ⟨-, t, rfl, ⟨hm, hg⟩ | ⟨hm, hg⟩ | ⟨hm, hg⟩⟩
  · obtain ⟨hle, -⟩ := h.resolve_left (by simp [hf])
    omega
  · obtain ⟨-, hle⟩ := h.resolve_left (by simp [hf])
    omega
  · rw [hg, ← hcast, Int.sign_eq_one_of_pos hm, mul_one]
    rfl
  · rw [hg, ← hcast, Int.sign_eq_neg_one_of_neg hm, mul_neg_one, ← sub_eq_add_neg]
    rfl
  · rw [hg, ← hcast, hm, Int.sign_zero, mul_zero, add_zero]
    exact (setDuty_self (s := { s with gd := s.gd.restarted }) hd).symm

end Calls

/-! ### `GSTEP` -/

theorem exec_gstep (e : Int) (s : State) :
    exec (.gstep e) s = .next { gdStep e s with result := (gdStep e s).ctrl.duty } := rfl

/-- Settles O26: the three kinds of call, and the bound of R223 for the accumulated sum. -/
theorem gstepSettlesAccumulatesOrMoves : Obligations.GstepSettlesAccumulatesOrMoves := by
  refine ⟨fun _ hop => decode_eq_ok_iff.mpr ⟨congrArg BitVec.toNat hop, rfl⟩,
    fun s e hp hd ⟨hcnt, hacc, hacc'⟩ hlo hhi => ⟨fun hf h => ?settle, fun hf h hn => ?accumulate, fun h => ?complete⟩⟩
  case settle => rw [exec_gstep, gdStep_of_settling hf h]
  case accumulate =>
    refine ⟨BitVec.ofInt 32 (sext s.gd.acc + e), sext_ofInt32 _ (by omega) (by omega), ?_⟩
    rw [exec_gstep, gdStep_of_accumulating hf h hn]
  case complete =>
    refine ⟨_, sext_setDuty _ s hp, ?_⟩
    rw [exec_gstep, gdStep_of_completing hd h]
    rfl

/-! ### `GFRC` -/

/-- The state `GFRC` leaves: settled, with no sample, and triggered (R222). -/
def primed (s : State) : State :=
  { s with gd := { s.gd with setCnt := s.gd.settle, avgCnt := 0#16, acc := 0#32, force := true } }

theorem exec_gfrc (s : State) : exec .gfrc s = .next (primed s) := rfl

/-- With the trigger pending the sole sample is the mean. -/
theorem gdStep_primed {s : State} (hd : s.DutyInRange) (e : Int) :
    gdStep e (primed s) =
      setDuty (sext s.ctrl.duty + s.scale * Int.sign e) { s with gd := s.gd.restarted } := by
  have hmean : tdiv (sext (primed s).gd.acc + e) ((primed s).gd.avgCnt.toNat + 1) = e := by
    simp [primed, tdiv, sext]
  rw [gdStep_of_completing (s := primed s) hd (.inl rfl), hmean]
  rfl

/-- Settles O27: priming a primed stepper changes nothing, `CRST` does not write the stepper, and the next call completes
on its own sample. -/
theorem gfrcMakesTheNextCallDecide : Obligations.GfrcMakesTheNextCallDecide := by
  refine ⟨fun _ hop => decode_eq_ok_iff.mpr ⟨congrArg BitVec.toNat hop, trivial⟩,
    fun s => ⟨primed s, exec_gfrc s, rfl, exec_gfrc _, ⟨_, exec_crst _, rfl⟩, fun e hp hd _ _ => ?_⟩⟩
  refine ⟨_, exec_gstep e (primed s), ?_⟩
  rw [gdStep_primed hd]
  exact ⟨rfl, rfl, sext_setDuty _ s hp⟩

/-! ### Calls with one error -/

/-- The stepper after `k` calls with the error `e` that do not complete its window, from idle counters: the first
`settle` of them count settling, the others samples. -/
def Gd.afterCalls (g : Gd) (e : Int) (k : Nat) : Gd :=
  { g with
    setCnt := BitVec.ofNat 16 (min k g.settle.toNat)
    avgCnt := BitVec.ofNat 16 (k - g.settle.toNat)
    acc := BitVec.ofInt 32 ((k - g.settle.toNat : Nat) * e) }

/-- The number of calls of one cycle (R224): a `GD_AVG` of 0 acts as 1. -/
def Gd.cycle (g : Gd) : Nat := g.settle.toNat + max g.avg.toNat 1

/-- The counters are at 0 and no trigger is pending. -/
def Gd.Idle (g : Gd) : Prop := g.setCnt = 0#16 ∧ g.avgCnt = 0#16 ∧ g.acc = 0#32 ∧ g.force = false

section Cycle

variable {g : Gd} {e : Int} {k : Nat}

theorem Gd.Idle.restarted (h : g.Idle) : g.restarted = g := by
  obtain ⟨hset, hcnt, hacc, hforce⟩ := h
  cases g
  simp_all [Gd.restarted]

theorem Gd.Idle.afterCalls_zero (h : g.Idle) : g.afterCalls e 0 = g := by
  obtain ⟨hset, hcnt, hacc, -⟩ := h
  cases g
  simp_all [Gd.afterCalls]

/-- Within a cycle the counters fit 16 bits. -/
theorem toNat_afterCalls (hk : k < g.cycle) :
    (g.afterCalls e k).setCnt.toNat = min k g.settle.toNat ∧
      (g.afterCalls e k).avgCnt.toNat = k - g.settle.toNat := by
  have hsettle := g.settle.isLt
  have havg := g.avg.isLt
  unfold Gd.cycle at hk
  simp only [Gd.afterCalls, BitVec.toNat_ofNat]
  omega

/-- Within a cycle the accumulator holds the exact sum (R223). -/
theorem sext_afterCalls_acc (hk : k < g.cycle) (he : -32768 ≤ e ∧ e ≤ 32767) :
    sext (g.afterCalls e k).acc = (k - g.settle.toNat : Nat) * e := by
  have havg := g.avg.isLt
  have hn : ((k - g.settle.toNat : Nat) : Int) ≤ 65535 := by
    unfold Gd.cycle at hk
    omega
  exact sext_ofInt32 _ (by nlinarith) (by nlinarith)

end Cycle

section Waiting

variable {s t : State} {e : Int} {k : Nat}

/-- A call before the last of the cycle settles or accumulates. -/
theorem gdStep_before_completing (hk : k + 1 < s.gd.cycle) (hf : s.gd.force = false)
    (he : -32768 ≤ e ∧ e ≤ 32767) (ht : t.gd = s.gd.afterCalls e k) :
    gdStep e t = { t with gd := s.gd.afterCalls e (k + 1) } := by
  obtain ⟨hset, hcnt⟩ := toNat_afterCalls (e := e) (Nat.lt_of_succ_lt hk)
  have hacc := sext_afterCalls_acc (Nat.lt_of_succ_lt hk) he
  have hforce : t.gd.force = false := by rw [ht]; exact hf
  have hsettle : t.gd.settle = s.gd.settle := by rw [ht]; rfl
  have havg : t.gd.avg = s.gd.avg := by rw [ht]; rfl
  rw [← ht] at hset hcnt hacc
  unfold Gd.cycle at hk
  by_cases h : k < s.gd.settle.toNat
  · rw [gdStep_of_settling hforce (by rw [hset, hsettle]; omega), ← ofNat_toNat_succ, hset, ht]
    have hmin : min k s.gd.settle.toNat + 1 = min (k + 1) s.gd.settle.toNat := by omega
    have hsub : k - s.gd.settle.toNat = k + 1 - s.gd.settle.toNat := by omega
    simp only [Gd.afterCalls, hmin, hsub]
  · rw [gdStep_of_accumulating hforce (by rw [hset, hsettle]; omega) (by rw [hcnt, havg]; omega),
      ← ofNat_toNat_succ, hcnt, hacc, ht]
    have hmin : min k s.gd.settle.toNat = min (k + 1) s.gd.settle.toNat := by omega
    have hsub : k - s.gd.settle.toNat + 1 = k + 1 - s.gd.settle.toNat := by omega
    have hsum : ((k - s.gd.settle.toNat : Nat) : Int) * e + e = (k + 1 - s.gd.settle.toNat : Nat) * e := by
      rw [← hsub]
      push_cast
      ring
    simp only [Gd.afterCalls, hmin, hsub, hsum]

/-- The last call of the cycle moves `DUTY`: the mean of equal samples is the sample. -/
theorem gdStep_completing (hk : k + 1 = s.gd.cycle) (he : -32768 ≤ e ∧ e ≤ 32767) (hd : t.DutyInRange)
    (ht : t.gd = s.gd.afterCalls e k) :
    gdStep e t = setDuty (sext t.ctrl.duty + t.scale * Int.sign e) { t with gd := t.gd.restarted } := by
  obtain ⟨hset, hcnt⟩ := toNat_afterCalls (g := s.gd) (e := e) (by omega : k < s.gd.cycle)
  have hacc := sext_afterCalls_acc (by omega : k < s.gd.cycle) he
  have hsettle : t.gd.settle = s.gd.settle := by rw [ht]; rfl
  have havg : t.gd.avg = s.gd.avg := by rw [ht]; rfl
  rw [← ht] at hset hcnt hacc
  unfold Gd.cycle at hk
  have hmean : tdiv (sext t.gd.acc + e) (t.gd.avgCnt.toNat + 1) = e := by
    rw [hacc, hcnt, ← add_one_mul]
    exact Int.mul_tdiv_cancel_left _ (by omega)
  rw [gdStep_of_completing hd (.inr ?_), hmean]
  rw [hset, hcnt, hsettle, havg]
  omega

end Waiting

/-! ### A run of `GSTEP` commands -/

/-- The agent step that writes `GSTEP #e` to `CMD`. -/
def gstepStimulus (p : Ports) (e : Int) : Stimulus :=
  { ports := p, action := .busWrite 0x00C#13 (encode (.gstep e)) }

/-- The state at which a command executes: the agent step is taken from the queue and its transfer answered. -/
def accepted (p : Ports) (rest : List Stimulus) (s : State) : State :=
  { s with inputs := rest, ports := p, resp := .write false }

section GstepRun

variable {s t u : State} {e : Int} {p : Ports} {k : Nat} {rest : List Stimulus}

theorem step_gstep (hi : s.inputs = gstepStimulus p e :: rest) (he : -32768 ≤ e ∧ e ≤ 32767) :
    step s = .next { gdStep e (accepted p rest s) with result := (gdStep e (accepted p rest s)).ctrl.duty } := by
  have hw : (Instr.gstep e).wf = true := by simp [Instr.wf, he]
  exact stepExecutesTheDecodedCommand s p _ rest _ hi (decodeOfEncodeIsTheCommand _ hw)

/-- A run extended by one step at its end. -/
theorem run_succ_of_run (h : core.run k s = .next t) (h' : step t = .next u) : core.run (k + 1) s = .next u := by
  induction k generalizing s with
  | zero =>
    cases h
    exact run_succ_of_step 0 h'
  | succ k ih =>
    obtain ⟨v, hv, hrun⟩ := run_succ_inv h
    exact (run_succ_of_step (k + 1) hv).trans (ih hrun)

/-- `t` is `s` after `k` calls with the error `e`, with the other calls of the cycle still queued. -/
structure WaitingAfter (s : State) (p : Ports) (e : Int) (k : Nat) (t : State) : Prop where
  inputs : t.inputs = List.replicate (s.gd.cycle - k) (gstepStimulus p e)
  params : t.params = s.params
  ctrl : t.ctrl = s.ctrl
  gd : t.gd = s.gd.afterCalls e k

/-- While calls are queued one of them is next. -/
theorem WaitingAfter.inputs_cons (h : WaitingAfter s p e k t) (hk : k < s.gd.cycle) :
    t.inputs = gstepStimulus p e :: List.replicate (s.gd.cycle - (k + 1)) (gstepStimulus p e) := by
  rw [h.inputs, ← List.replicate_succ]
  congr 1
  omega

/-- R224, a call before the last of the cycle. -/
theorem WaitingAfter.step_waiting (h : WaitingAfter s p e k t) (hf : s.gd.force = false)
    (he : -32768 ≤ e ∧ e ≤ 32767) (hk : k + 1 < s.gd.cycle) :
    ∃ u, step t = .next u ∧ WaitingAfter s p e (k + 1) u := by
  have hcall := gdStep_before_completing (t := accepted p (List.replicate (s.gd.cycle - (k + 1)) (gstepStimulus p e)) t)
    hk hf he h.gd
  refine ⟨_, step_gstep (h.inputs_cons (by omega)) he, ?_⟩
  rw [hcall]
  exact ⟨rfl, h.params, h.ctrl, rfl⟩

/-- R224, the last call of the cycle. -/
theorem WaitingAfter.step_completing (h : WaitingAfter s p e k t) (hidle : s.gd.Idle) (hd : s.DutyInRange)
    (he : -32768 ≤ e ∧ e ≤ 32767) (hk : k + 1 = s.gd.cycle) :
    ∃ u, step t = .next u ∧ u.gd = s.gd ∧
      u.ctrl.duty = (setDuty (sext s.ctrl.duty + s.scale * Int.sign e) s).ctrl.duty := by
  have hscale : t.scale = s.scale := congrArg (fun q : Params => (q.dutyScale : Int)) h.params
  have hd' : t.DutyInRange := by rwa [State.DutyInRange, hscale, h.ctrl]
  have hcall := gdStep_completing (t := accepted p (List.replicate (s.gd.cycle - (k + 1)) (gstepStimulus p e)) t)
    hk he hd' h.gd
  have hrestart : t.gd.restarted = s.gd.restarted := by
    rw [h.gd]
    rfl
  refine ⟨_, step_gstep (h.inputs_cons (by omega)) he, ?_⟩
  rw [hcall]
  refine ⟨hrestart.trans hidle.restarted, ?_⟩
  rw [← setDuty_duty_congr h.params, ← hscale, ← h.ctrl]
  rfl

/-- R224, the calls before the last of the cycle: the stepper waits. -/
theorem run_waiting (hi : s.inputs = List.replicate s.gd.cycle (gstepStimulus p e)) (hidle : s.gd.Idle)
    (he : -32768 ≤ e ∧ e ≤ 32767) (hk : k < s.gd.cycle) :
    ∃ t : State, core.run k s = .next t ∧ WaitingAfter s p e k t := by
  induction k with
  | zero => exact ⟨s, rfl, hi, rfl, rfl, hidle.afterCalls_zero.symm⟩
  | succ k ih =>
    obtain ⟨t, hrun, hwait⟩ := ih (by omega)
    obtain ⟨-, -, -, hforce⟩ := hidle
    obtain ⟨u, hstep, hwait'⟩ := hwait.step_waiting hforce he hk
    exact ⟨u, run_succ_of_run hrun hstep, hwait'⟩

end GstepRun

/-- Settles O28: the run waits until its last call, which completes the window and leaves idle counters. -/
theorem gradientStepMovesAfterSettleAndAverage : Obligations.GradientStepMovesAfterSettleAndAverage := by
  intro s e p hp hd hlo hhi hset hcnt hacc hforce hi
  have he : -32768 ≤ e ∧ e ≤ 32767 := ⟨hlo, hhi⟩
  have hidle : s.gd.Idle := ⟨hset, hcnt, hacc, hforce⟩
  refine ⟨fun k hk => ?waits, ?moves⟩
  case waits =>
    obtain ⟨t, hrun, hwait⟩ := run_waiting hi hidle he hk
    exact ⟨t, hrun, congrArg Ctrl.duty hwait.ctrl⟩
  case moves =>
    obtain ⟨k, hk⟩ : ∃ k, s.gd.cycle = k + 1 := Nat.exists_eq_succ_of_ne_zero (by unfold Gd.cycle; omega)
    obtain ⟨t, hrun, hwait⟩ := run_waiting hi hidle he (by omega : k < s.gd.cycle)
    obtain ⟨u, hstep, hgd, hduty⟩ := hwait.step_completing hidle hd he hk.symm
    have hmoved := sext_setDuty (sext s.ctrl.duty + s.scale * Int.sign e) s hp
    rw [← hduty] at hmoved
    have hall : core.run s.gd.cycle s = .next u := hk ▸ run_succ_of_run hrun hstep
    exact ⟨u, hall, hgd, hmoved⟩

end Sys2Proof.Machine
end

section
/-!
The droop term and the control phase of the tick (43_control.md R225, R226, R230, R275): what `DROOP` stores, the
reference and the error a tick computes, and a tick whose compensator step is refused.
-/

namespace Sys2Proof.Machine

/-! ### The droop term -/

section Droop

variable {s : State} {i d : Int}

theorem exec_droop (i : Int) (s : State) :
    exec (.droop i) s = .next { s with
      result := BitVec.ofInt 32 (droopTerm i s)
      ctrl := { s.ctrl with vrefEff := (applyDroop (droopTerm i s) s).ctrl.vrefEff } } := rfl

/-- The stored droop term is the exact one: it is saturated already (R226). -/
theorem sext_droopTerm (i : Int) (s : State) : sext (BitVec.ofInt 32 (droopTerm i s)) = droopTerm i s := by
  obtain ⟨hlo, hhi⟩ := sat32_bounds (tdiv (i * sext s.ctrl.droopScale) (2 ^ s.params.sfLog2))
  exact sext_ofInt32 _ hlo hhi

theorem droopTerm_eq (i : Int) (s : State) :
    droopTerm i s =
      min (max (Int.tdiv (i * s.ctrl.droopScale.toInt) (2 ^ s.params.sfLog2)) (-2147483648)) 2147483647 := rfl

/-- `VREF_EFF` after a droop term is applied, saturated to 32 bits (R225). -/
theorem sext_applyDroop (d : Int) (s : State) :
    sext (applyDroop d s).ctrl.vrefEff =
      sat 32 (if s.ctrl.droopAdd then sext s.ctrl.vref + d else sext s.ctrl.vref - d) := by
  have hstored (v : Int) : sext (BitVec.ofInt 32 (sat 32 v)) = sat 32 v := by
    obtain ⟨hlo, hhi⟩ := sat32_bounds v
    exact sext_ofInt32 _ hlo hhi
  rw [applyDroop, ← apply_ite (sat 32)]
  exact hstored _

/-- R226: `MULSC` with `k = SF_LOG2` computes the droop term from the same operands. -/
theorem exec_mulsc_result {t : State} (k : Nat) (hx : exec (.mulsc k) s = .next t) :
    t.result = BitVec.ofInt 32 (sat 32 (tdiv (s.a0 * s.a1) (2 ^ k))) := by
  rw [complete_next_inv hx]
  rfl

end Droop

/-- Settles O29: the term and the reference are saturated before they are stored, so both read back exactly. -/
theorem droopAppliesTheScaledTerm : Obligations.DroopAppliesTheScaledTerm := by
  refine ⟨fun _ hop => decode_eq_ok_iff.mpr ⟨congrArg BitVec.toNat hop, rfl⟩, fun s i hlo hhi => ?_⟩
  have hterm : (BitVec.ofInt 32 (droopTerm i s)).toInt = droopTerm i s := sext_droopTerm i s
  refine ⟨_, _, hterm, ?_, exec_droop i s, _, rfl, ?_⟩
  · rw [hterm]
    exact sext_applyDroop (droopTerm i s) s
  · have harg : sext (BitVec.ofInt 32 i) = i := sext_ofInt32 i (by omega) (by omega)
    rw [exec_mulsc_result s.params.sfLog2 rfl, State.a0, harg]
    rfl

/-! ### The control phase -/

section ControlPhase

variable {s : State}

/-- The reference of a tick (R230). -/
theorem sext_tickReference (s : State) :
    sext (tickReference s).ctrl.vrefEff =
      if s.ctrl.droopEn then
        sat 32 (if s.ctrl.droopAdd then sext s.ctrl.vref + droopTerm (sext (s.chan s.ctrl.droopCh.toNat).avg) s
          else sext s.ctrl.vref - droopTerm (sext (s.chan s.ctrl.droopCh.toNat).avg) s)
      else sext s.ctrl.vref := by
  unfold tickReference
  split
  · exact sext_applyDroop _ s
  · exact congrArg sext (ofInt_sext s.ctrl.vref)

theorem tickReference_params (s : State) : (tickReference s).params = s.params := by rw [tickReference_eq]

theorem tickReference_comp (s : State) : (tickReference s).comp = s.comp := by rw [tickReference_eq]

/-- The control error of a tick is taken against the reference just computed (R230). -/
theorem controlError_tickReference (s : State) :
    controlError (tickReference s) =
      sat 16 (sext (tickReference s).ctrl.vrefEff - sext (s.chan s.ctrl.fbCh.toNat).avg) := by
  rw [tickReference_eq]
  rfl

theorem controlTick_of_comp_ok {t : State} (hl : s.prot.latched = false) (hm : s.ctrl.mode = .comp)
    (h : compStep (controlError (tickReference s)) (tickReference s) = .ok t) : controlTick s = t := by
  rw [controlTick_of_comp hl hm, h, settle_ok]

theorem controlTick_of_comp_error {k : Err} (hl : s.prot.latched = false) (hm : s.ctrl.mode = .comp)
    (h : compStep (controlError (tickReference s)) (tickReference s) = .error k) : controlTick s = recordError k s := by
  rw [controlTick_of_comp hl hm, h, settle_error]

end ControlPhase

/-- Settles O30: the reference and the error of the tick, then the strategy's own step from there. -/
theorem controlPhaseRunsTheSelectedStrategy : Obligations.ControlPhaseRunsTheSelectedStrategy := by
  refine ⟨fun s h => h.elim controlTick_of_off controlTick_of_latched, fun s hl => ?_⟩
  exact ⟨droopTerm (sext (s.chan s.ctrl.droopCh.toNat).avg) s, (tickReference s).ctrl.vrefEff,
    controlError (tickReference s), tickReference s, droopTerm_eq _ s, sext_tickReference s,
    controlError_tickReference s, tickReference_eq s, controlTick_of_gd hl,
    fun hm _ => controlTick_of_comp_ok hl hm, fun hm _ => controlTick_of_comp_error hl hm⟩

/-! ### A tick whose compensator step is refused -/

section Refused

variable {s : State} {k : Err}

/-- The phases before the control phase write no control register, no stepper, no compensator and no error. -/
theorem protCheck_sensed_frame (s : State) :
    (protCheck (sensed s)).params = s.params ∧ (protCheck (sensed s)).ctrl = s.ctrl ∧
      (protCheck (sensed s)).gd = s.gd ∧ (protCheck (sensed s)).comp = s.comp ∧
      (protCheck (sensed s)).status = s.status := by
  rw [protCheck_eq, sensed_eq]
  exact ⟨rfl, rfl, rfl, rfl, rfl⟩

/-- What a refused control phase leaves of a tick: the control state as it was, the tick counted, and the error recorded
unless the tick ends Latched. -/
structure ControlRefused (s : State) (k : Err) (t : State) : Prop where
  tickCnt : t.tickCnt = s.tickCnt + 1#32
  ctrl : t.ctrl = s.ctrl
  gd : t.gd = s.gd
  comp : t.comp = s.comp
  recorded : t.prot.latched = false → t.status = (recordError k s).status ∧ t.events.getLsbD 2 = true

/-- R230, R275: a compensator that refuses every input on this build refuses the tick's. -/
theorem tickStep_controlRefused (hm : s.ctrl.mode = .comp)
    (hrefuse : ∀ x u, u.params = s.params → u.comp = s.comp → compStep x u = .error k) :
    ControlRefused s k (tickStep s) := by
  have hcount : (tickStep s).tickCnt = s.tickCnt + 1#32 := by rw [tickStep_eq]
  obtain ⟨hparams, hctrl, hgd, hcomp, hstatus⟩ := protCheck_sensed_frame s
  cases hl : (tickStep s).prot.latched with
  | true =>
    obtain ⟨hctrl', hgd', hcomp', -⟩ := tickStep_control_of_latched hl
    exact ⟨hcount, hctrl', hgd', hcomp', fun h => by simp [hl] at h⟩
  | false =>
    have hphase : tickStep s = recordError k (protCheck (sensed s)) := by
      rw [tickStep_prot] at hl
      rw [tickStep_eq_sensed]
      exact controlTick_of_comp_error hl (by rw [hctrl, hm])
        (hrefuse _ _ (by rw [tickReference_params, hparams]) (by rw [tickReference_comp, hcomp]))
    refine ⟨hcount, ?_, ?_, ?_, fun _ => ⟨?_, ?_⟩⟩ <;> rw [hphase]
    · exact hctrl
    · exact hgd
    · exact hcomp
    · rw [recordError_status, recordError_status, hstatus]
    · simp [evErr]

theorem tickStep_of_badConfig (hm : s.ctrl.mode = .comp) (h : ¬s.comp.LengthsLegal s.params) :
    ControlRefused s .badConfig (tickStep s) :=
  tickStep_controlRefused hm fun _ u hp hc => compStep_of_badConfig (by rwa [hp, hc])

theorem tickStep_of_divZero (hm : s.ctrl.mode = .comp) (h : s.comp.LengthsLegal s.params)
    (hden : s.comp.den.getD 0 0#16 = 0#16) : ControlRefused s .divZero (tickStep s) :=
  tickStep_controlRefused hm fun _ u hp hc => compStep_of_divZero (by rwa [hp, hc]) (by rwa [hc])

end Refused

/-- The step of a tick source is the tick sequence on the ports it shows. -/
theorem step_of_tick {s : State} {p : Ports} {rest : List Stimulus}
    (hi : s.inputs = { ports := p, action := .tick } :: rest) :
    step s = .next (tickStep (present { ports := p, action := .tick } rest s)) :=
  step_of_done (nextWork_of_inputs hi)

/-- Settles O31: the tick of the presented state, which has the same control registers. -/
theorem tickControlErrorFreezesControl : Obligations.TickControlErrorFreezesControl := by
  intro s p rest hi hm
  refine ⟨fun hbad => ?badConfig, fun hn hn' hd hd' hden => ?divZero⟩
  case badConfig =>
    obtain ⟨hcount, hctrl, hgd, hcomp, hrecorded⟩ :=
      tickStep_of_badConfig (s := present { ports := p, action := .tick } rest s) hm (not_lengthsLegal_iff.mpr hbad)
    exact ⟨_, step_of_tick hi, hcount, hctrl, hgd, hcomp, hrecorded⟩
  case divZero =>
    obtain ⟨hcount, hctrl, hgd, hcomp, hrecorded⟩ :=
      tickStep_of_divZero (s := present { ports := p, action := .tick } rest s) hm ⟨⟨hn, hn'⟩, hd, hd'⟩ hden
    exact ⟨_, step_of_tick hi, hcount, hctrl, hgd, hcomp, hrecorded⟩

end Sys2Proof.Machine
end

section
/-!
The fixed-point primitives and `NOP` (44_arith.md R240 to R249, R260). Each primitive but `MUL` ends in an integer that
fits 32 bits, so it answers a word, whose own bits give Z and N (`arithResult_sext`); what is left per command is which
word, and when V is set. A command that raises nothing is by definition `.next` of its end.
-/

namespace Sys2Proof.Machine

/-! ### The end of a primitive, on words -/

/-- `s` with the answer `r`, the flags Z and N of `r`, and V as given (R240). -/
def State.answered (s : State) (r : Word) (v : Bool) : State :=
  { s with result := r, status := { s.status with z := decide (r = 0#32), n := r.msb, v := v } }

/-- `sat_32(x)` as a word. -/
def satWord (x : Int) : Word := BitVec.ofInt 32 (sat 32 x)

theorem sext_satWord (x : Int) : sext (satWord x) = sat 32 x := by
  obtain ⟨hlo, hhi⟩ := sat32_bounds x
  exact sext_ofInt32 _ hlo hhi

theorem arithResult_sext (r : Word) (v : Bool) (s : State) : arithResult (sext r) v s = s.answered r v := by
  obtain ⟨hlo, hhi⟩ := sext32_bounds r
  rw [arithResult_eq s (sext r) v hlo hhi, ofInt_sext]
  rfl

/-- A saturating primitive answers the saturated word; V says in the rule's own words that it was cut. -/
theorem arithResult_sat32 {x : Int} {v : Bool} (hv : changed x (sat 32 x) = v) (s : State) :
    arithResult (sat 32 x) (changed x (sat 32 x)) s = s.answered (satWord x) v := by
  rw [hv, ← sext_satWord, arithResult_sext]

/-! ### When a narrowing changes the result -/

theorem changed_sext (r w : Word) : changed (sext r) (sext w) = decide (r ≠ w) :=
  decide_eq_decide.mpr (not_congr BitVec.toInt_inj)

/-- Wrapping is storing and reading back. -/
theorem wrap32_eq_sext (t : Int) : wrap 32 t = sext (BitVec.ofInt 32 t) := (BitVec.toInt_ofInt t).symm

/-- V of a wrapping primitive is signed overflow (R241, R242). -/
theorem changed_wrap32 (t : Int) :
    changed t (wrap 32 t) = decide (¬(-2147483648 ≤ t ∧ t ≤ 2147483647)) := by
  refine decide_eq_decide.mpr (not_congr ⟨fun heq => ?_, fun ⟨hlo, hhi⟩ => ?_⟩)
  · rw [heq, wrap32_eq_sext]
    exact sext32_bounds _
  · rw [wrap32_eq_sext, sext_ofInt32 t hlo hhi]

/-- V of a saturating primitive says that the exact result is out of range (R243, R244). -/
theorem changed_sat32 (t : Int) :
    changed t (sat 32 t) = decide (¬(-2147483648 ≤ t ∧ t ≤ 2147483647)) := by
  refine decide_eq_decide.mpr (not_congr ⟨fun heq => ?_, fun ⟨hlo, hhi⟩ => ?_⟩)
  · rw [heq]
    exact sat32_bounds t
  · exact (sat_eq_self 32 t hlo hhi).symm

/-- V of a saturating primitive, read from its answer (R246). -/
theorem changed_sat32_word (t : Int) : changed t (sat 32 t) = decide (t ≠ (satWord t).toInt) := by
  rw [← sext_satWord, changed, sext]

/-! ### `NOP` -/

/-- Settles O6: `NOP` settles to the state it started from. -/
theorem nopChangesNothing : Obligations.NopChangesNothing :=
  ⟨fun _ hop => decode_eq_ok_iff.mpr ⟨congrArg BitVec.toNat hop, trivial⟩, rfl, fun s =>
    congrArg Host.Outcome.next (settle_ok s s)⟩

/-! ### `ADD` and `SUB` -/

/-- A wrapping primitive answers the word that its exact result is congruent to. -/
theorem arithResult_wrap32 {t : Int} {r : Word} (h : sext r = wrap 32 t) (s : State) :
    arithResult (wrap 32 t) (changed t (wrap 32 t)) s =
      s.answered r (decide (¬(-2147483648 ≤ t ∧ t ≤ 2147483647))) := by
  rw [changed_wrap32, ← h, arithResult_sext]

/-- Settles O32: the sum of two words is the wrapped exact sum. -/
theorem addWrapsWithOverflowFlag : Obligations.AddWrapsWithOverflowFlag :=
  ⟨fun _ hop => decode_eq_ok_iff.mpr ⟨congrArg BitVec.toNat hop, trivial⟩, fun s =>
    congrArg Host.Outcome.next (arithResult_wrap32 (BitVec.toInt_add s.arg0 s.arg1) s)⟩

/-- Settles O33: the difference of two words is the wrapped exact difference. -/
theorem subWrapsWithOverflowFlag : Obligations.SubWrapsWithOverflowFlag :=
  ⟨fun _ hop => decode_eq_ok_iff.mpr ⟨congrArg BitVec.toNat hop, trivial⟩, fun s =>
    congrArg Host.Outcome.next (arithResult_wrap32 (BitVec.toInt_sub (x := s.arg0) (y := s.arg1)) s)⟩

/-! ### `ADDS` and `SUBS` -/

/-- Saturation to 32 bits by cases: the end of the range the value lies beyond, or the value. -/
theorem sat32_eq_ite (x : Int) :
    sat 32 x = if x > 2147483647 then 2147483647 else if x < -2147483648 then -2147483648 else x := by
  unfold sat
  split_ifs <;> omega

/-- Settles O34: both commands saturate an exact integer. -/
theorem addsAndSubsSaturate : Obligations.AddsAndSubsSaturate := by
  refine ⟨fun _ => ⟨fun hop => decode_eq_ok_iff.mpr ⟨congrArg BitVec.toNat hop, trivial⟩,
    fun hop => decode_eq_ok_iff.mpr ⟨congrArg BitVec.toNat hop, trivial⟩⟩, fun s i x h => ?_⟩
  refine ⟨satWord x, (sext_satWord x).trans (sat32_eq_ite x), ?_⟩
  rcases h with ⟨rfl, rfl⟩ | ⟨rfl, rfl⟩
  case inl => exact congrArg Host.Outcome.next (arithResult_sat32 (changed_sat32 (sext s.arg0 + sext s.arg1)) s)
  case inr => exact congrArg Host.Outcome.next (arithResult_sat32 (changed_sat32 (sext s.arg0 - sext s.arg1)) s)

/-! ### `MUL` and `MULSC` -/

theorem abs_sext32_le (v : Word) : |sext v| ≤ 2 ^ 31 := by
  obtain ⟨hlo, hhi⟩ := sext32_bounds v
  exact abs_le.mpr ⟨by omega, by omega⟩

/-- R246: `|A0·A1| ≤ 2^62`. -/
theorem abs_sext32_mul_le (a b : Word) : |sext a * sext b| ≤ 2 ^ 62 :=
  calc |sext a * sext b| = |sext a| * |sext b| := abs_mul _ _
    _ ≤ 2 ^ 31 * 2 ^ 31 := mul_le_mul (abs_sext32_le a) (abs_sext32_le b) (abs_nonneg _) (by norm_num)
    _ = 2 ^ 62 := by norm_num

/-- R245: a 32 × 32 product fits 64 bits, so its two halves hold it whole. -/
theorem toInt_product (a b : Word) : (BitVec.ofInt 64 (sext a * sext b)).toInt = sext a * sext b := by
  obtain ⟨hlo, hhi⟩ := abs_le.mp (abs_sext32_mul_le a b)
  rw [BitVec.toInt_ofInt]
  exact Int.bmod_eq_of_le (by omega) (by omega)

/-- Settles O35: the answer is the 64-bit product cut in two. -/
theorem mulGivesTheWholeProduct : Obligations.MulGivesTheWholeProduct := by
  refine ⟨fun _ hop => decode_eq_ok_iff.mpr ⟨congrArg BitVec.toNat hop, trivial⟩, fun s => ⟨_, _, ?_, rfl⟩⟩
  exact (congrArg BitVec.toInt (BitVec.extractLsb'_append_extractLsb' (w := 32) (len := 32))).trans
    (toInt_product s.arg0 s.arg1)

/-- R246: a product scaled by `2^63` truncates to 0. -/
theorem tdiv_product_two_pow_63 (a b : Word) : tdiv (sext a * sext b) (2 ^ 63) = 0 := by
  have hlt : (sext a * sext b).natAbs < 2 ^ 63 := by
    obtain ⟨hlo, hhi⟩ := abs_le.mp (abs_sext32_mul_le a b)
    omega
  rw [tdiv, ← Int.natAbs_eq_zero, Int.natAbs_tdiv]
  exact Nat.div_eq_of_lt hlt

theorem shiftOperand_eq (w : Word) : shiftOperand w = w.toNat % 64 := by
  simp [shiftOperand, BitVec.extractLsb'_toNat]

/-- Settles O36: the quotient is exact before it is saturated, and below 1 in magnitude when `k = 63`. -/
theorem mulscScalesTruncatesAndSaturates : Obligations.MulscScalesTruncatesAndSaturates := by
  refine ⟨fun w hop => decode_eq_ok_iff.mpr ⟨congrArg BitVec.toNat hop, shiftOperand_eq w⟩, fun s k _ => ?_⟩
  refine ⟨_, _, rfl, sext_satWord _, ?_, congrArg Host.Outcome.next (arithResult_sat32 (changed_sat32_word _) s)⟩
  rintro rfl
  exact congrArg satWord (tdiv_product_two_pow_63 s.arg0 s.arg1)

/-! ### `SAT` and `CLAMP` -/

theorem widthOperand_eq (w : Word) : widthOperand w = w.toNat % 32 + 1 := by
  simp [widthOperand, BitVec.extractLsb'_toNat]

/-- Saturating to at most 32 bits gives a value that fits 32 bits (R247). -/
theorem sext_ofInt32_sat {n : Nat} (hn : n ≤ 32) (v : Int) : sext (BitVec.ofInt 32 (sat n v)) = sat n v := by
  obtain ⟨hlo, hhi⟩ := sat_bounds n v
  have hpow : (2 : Int) ^ (n - 1) ≤ 2 ^ 31 := pow_le_pow_right₀ (by norm_num) (by omega)
  exact sext_ofInt32 _ (by omega) (by omega)

/-- A word already fits 32 bits (R247). -/
theorem sat32_sext (w : Word) : sat 32 (sext w) = sext w := by
  obtain ⟨hlo, hhi⟩ := sext32_bounds w
  exact sat_eq_self 32 _ hlo hhi

/-- A primitive that answers `r` for `ARG0`, with V as a changed `ARG0` (R247, R248). -/
theorem arithResult_changed_a0 {x : Int} {r : Word} (h : x = sext r) (s : State) :
    arithResult x (changed x s.a0) s = s.answered r (decide (r ≠ s.arg0)) := by
  rw [h, State.a0, changed_sext, arithResult_sext]

/-- Settles O37: `n` is at most 32, so the saturated value is stored exactly. -/
theorem satSaturatesToTheWidth : Obligations.SatSaturatesToTheWidth := by
  refine ⟨fun w hop => decode_eq_ok_iff.mpr ⟨congrArg BitVec.toNat hop, widthOperand_eq w⟩, fun s n _ hn => ?_⟩
  have hstored := sext_ofInt32_sat hn s.a0
  refine ⟨BitVec.ofInt 32 (sat n s.a0), hstored, ?_,
    congrArg Host.Outcome.next (arithResult_changed_a0 hstored.symm s)⟩
  rintro rfl
  rw [State.a0, sat32_sext, ofInt_sext]

/-- The clamped word by cases: crossed bounds first (R248). -/
theorem clamp_sext (a lo hi : Word) :
    clamp (sext a) (sext lo) (sext hi) =
      sext (if sext lo > sext hi then hi else if sext a < sext lo then lo else if sext a > sext hi then hi else a) := by
  unfold clamp
  split_ifs <;> omega

/-- Settles O38: the answer is one of the three operands. -/
theorem clampKeepsWithinTheBounds : Obligations.ClampKeepsWithinTheBounds :=
  ⟨fun _ hop => decode_eq_ok_iff.mpr ⟨congrArg BitVec.toNat hop, trivial⟩, fun s =>
    ⟨_, rfl, congrArg Host.Outcome.next (arithResult_changed_a0 (clamp_sext s.arg0 s.arg1 s.arg2) s)⟩⟩

/-! ### `DIVT` -/

theorem trem_eq_tmod (a b : Int) : trem a b = Int.tmod a b := (Int.tmod_def a b).symm

/-- R249: `|m| < |A1|`. -/
theorem abs_trem_lt (a : Int) {b : Int} (hb : b ≠ 0) : |trem a b| < |b| := by
  rw [trem_eq_tmod, Int.abs_eq_natAbs, Int.abs_eq_natAbs, Int.natAbs_tmod]
  exact_mod_cast Nat.mod_lt _ (Int.natAbs_pos.mpr hb)

/-- R249: the remainder has the sign of the dividend. -/
theorem sign_trem (a b : Int) : trem a b = 0 ∨ Int.sign (trem a b) = Int.sign a := by
  rw [trem_eq_tmod]
  by_cases hdvd : b ∣ a
  · exact .inl (Int.tmod_eq_zero_of_dvd hdvd)
  · exact .inr (by rw [Int.sign_tmod, if_neg hdvd])

/-- The quotient of two words is a word, or `2^31` for `−2^31 / −1` (R249). -/
theorem tdiv_sext_bounds (a b : Word) :
    -2147483648 ≤ tdiv (sext a) (sext b) ∧ tdiv (sext a) (sext b) ≤ 2147483648 := by
  have hle : (tdiv (sext a) (sext b)).natAbs ≤ (sext a).natAbs := Int.natAbs_tdiv_le_natAbs _ _
  obtain ⟨hlo, hhi⟩ := sext32_bounds a
  omega

theorem sext_ofInt32_trem (a : Int) {b : Word} (hb : sext b ≠ 0) :
    sext (BitVec.ofInt 32 (trem a (sext b))) = trem a (sext b) := by
  have hlt := (abs_trem_lt a hb).trans_le (abs_sext32_le b)
  obtain ⟨hlo, hhi⟩ := abs_lt.mp hlt
  exact sext_ofInt32 _ (by omega) (by omega)

/-- Above `−2^31`, saturation cuts only from above. -/
theorem sat32_eq_min {q : Int} (h : -2147483648 ≤ q) : sat 32 q = min q 2147483647 :=
  congrArg (min · 2147483647) (max_eq_left h)

/-- R249: the one quotient that saturates is `2^31`. -/
theorem changed_sat32_quotient (a b : Word) :
    changed (tdiv (sext a) (sext b)) (sat 32 (tdiv (sext a) (sext b))) =
      decide (tdiv (sext a) (sext b) = 2147483648) := by
  obtain ⟨hlo, hhi⟩ := tdiv_sext_bounds a b
  rw [changed_sat32, decide_eq_decide]
  omega

section Divt

variable {s : State}

theorem exec_divt_of_zero (h : s.arg1 = 0#32) : exec .divt s = .next (recordError .divZero s) :=
  congrArg (fun r => Host.Outcome.next (settle s r)) (if_pos ((sext_eq_zero_iff s.arg1).mpr h))

/-- `DIVT` with a divisor: `RESULT_HI` takes the remainder before the saturated quotient is answered. -/
theorem exec_divt_of_ne (h : sext s.arg1 ≠ 0) :
    exec .divt s = .next ((withResultHi (BitVec.ofInt 32 (trem (sext s.arg0) (sext s.arg1))) s).answered
      (satWord (tdiv (sext s.arg0) (sext s.arg1))) (decide (tdiv (sext s.arg0) (sext s.arg1) = 2147483648))) := by
  rw [← arithResult_sat32 (changed_sat32_quotient s.arg0 s.arg1)]
  exact congrArg (fun r => Host.Outcome.next (settle s r)) (if_neg h)

end Divt

/-- Settles O39: the division law fixes quotient and remainder, and `2^31` is the one quotient that saturates. -/
theorem divtTruncatesTowardZero : Obligations.DivtTruncatesTowardZero := by
  refine ⟨fun _ hop => decode_eq_ok_iff.mpr ⟨congrArg BitVec.toNat hop, trivial⟩, fun _ => exec_divt_of_zero,
    fun s h => ?_⟩
  have hne : sext s.arg1 ≠ 0 := mt (sext_eq_zero_iff s.arg1).mp h
  have hlaw : sext s.arg0 = sext s.arg1 * tdiv (sext s.arg0) (sext s.arg1) + trem (sext s.arg0) (sext s.arg1) :=
    (add_sub_cancel _ _).symm
  obtain ⟨hlo, -⟩ := tdiv_sext_bounds s.arg0 s.arg1
  have hquot : sext (satWord (tdiv (sext s.arg0) (sext s.arg1))) = min (tdiv (sext s.arg0) (sext s.arg1)) 2147483647 :=
    (sext_satWord _).trans (sat32_eq_min hlo)
  exact ⟨_, _, _, _, hlaw, abs_trem_lt _ hne, sign_trem _ _, sext_ofInt32_trem _ hne, hquot, exec_divt_of_ne hne⟩

end Sys2Proof.Machine
end

section
/-!
Errors, events and the interrupt line (60_exceptions.md R270 to R280, R290). A pending bit is lost in one way only: the
host writes its register. So every operation but those two writes keeps every pending bit (`KeepsPending`), and the step
is a use of `agentStep_keeps`.
-/

namespace Sys2Proof.Machine

/-! ### Every step completes -/

/-- Whatever its operation answers, a command ends by completing: its error is recorded, not raised (R270). -/
theorem exec_eq_complete (i : Instr) (s : State) : ∃ r, exec i s = complete s r := by
  cases i <;> exact ⟨_, rfl⟩

/-- Settles O54: an agent step is either complete as it is or executes one command, which completes. -/
theorem everyStepCompletes : Obligations.EveryStepCompletes := by
  intro s
  cases hw : nextWork s with
  | done t => exact ⟨t, step_of_done hw⟩
  | command i t =>
    obtain ⟨r, hr⟩ := exec_eq_complete i t
    exact ⟨settle t r, by rw [step_of_command hw, hr, complete_eq_next]⟩

/-! ### Recording an error -/

/-- The error bits after a recording, bit by bit: the recorded one joins those already set. -/
theorem getLsbD_recordError_err (e : Err) (s : State) {j : Nat} (hj : j < 5) :
    (recordError e s).status.err.getLsbD j = (s.status.err.getLsbD j || decide (j = e.code - 1)) := by
  rw [recordError_status, BitVec.getLsbD_or, BitVec.getLsbD_twoPow]
  by_cases h : e.code - 1 = j
  · simp [h, hj]
  · simp [h, Ne.symm h]

/-- Settles O48: the code column is R272's, and the record update is the definition's own. -/
theorem recordErrorDoesExactlyThis : Obligations.RecordErrorDoesExactlyThis := by
  intro e s
  refine ⟨e.code, (recordError e s).status.err, ?_, fun j hj => getLsbD_recordError_err e s hj, rfl⟩
  cases e <;> decide

/-! ### Bits that stay -/

section Bits

variable {n : Nat} {a b c : BitVec n}

/-- Containment of bit sets, written `a &&& b = a` as R27 and R273 are stated, is transitive. -/
theorem and_eq_left_trans (hab : a &&& b = a) (hbc : b &&& c = b) : a &&& c = a := by
  calc a &&& c = a &&& b &&& c := by rw [hab]
    _ = a := by rw [BitVec.and_assoc, hbc, hab]

theorem and_or_eq_left (a b : BitVec n) : a &&& (a ||| b) = a := by
  ext j hj
  simpa using Or.inl

/-- A vector that meets `a` also meets every vector that contains `a`. -/
theorem and_ne_zero_of_contains (hab : a &&& b = a) (h : a &&& c ≠ 0#n) : b &&& c ≠ 0#n := by
  intro hbc
  apply h
  calc a &&& c = a &&& (b &&& c) := by rw [← BitVec.and_assoc, hab]
    _ = 0#n := by rw [hbc, BitVec.and_zero]

theorem and_ne_zero_iff_exists_getLsbD :
    a &&& b ≠ 0#n ↔ ∃ k, k < n ∧ a.getLsbD k = true ∧ b.getLsbD k = true := by
  constructor
  · intro h
    by_contra hnone
    apply h
    apply BitVec.eq_of_getLsbD_eq
    intro k hk
    simpa using fun ha hb => hnone ⟨k, hk, ha, hb⟩
  · rintro ⟨k, -, ha, hb⟩ h
    have hbit := congrArg (·.getLsbD k) h
    simp [ha, hb] at hbit

end Bits

/-- From `s` to `t` no error bit and no event is lost. -/
structure KeepsPending (s t : State) : Prop where
  err : s.status.err &&& t.status.err = s.status.err
  events : s.events &&& t.events = s.events

/-! ### The operations keep what is pending -/

section Pending

variable {s t u : State}

theorem keepsPending_of_eq (he : t.status.err = s.status.err) (hv : t.events = s.events) : KeepsPending s t :=
  ⟨by rw [he, BitVec.and_self], by rw [hv, BitVec.and_self]⟩

theorem KeepsPending.trans (h : KeepsPending s t) (h' : KeepsPending t u) : KeepsPending s u :=
  ⟨and_eq_left_trans h.err h'.err, and_eq_left_trans h.events h'.events⟩

/-- An operation that raises an event, or none, and leaves the errors alone. -/
theorem keepsPending_of_raised {e : BitVec 3} (he : t.status.err = s.status.err) (hv : t.events = s.events ||| e) :
    KeepsPending s t :=
  ⟨by rw [he, BitVec.and_self], by rw [hv, and_or_eq_left]⟩

theorem recordError_keepsPending (e : Err) (s : State) : KeepsPending s (recordError e s) :=
  ⟨and_or_eq_left _ _, and_or_eq_left _ _⟩

theorem hwShutdown_keepsPending (s : State) : KeepsPending s (hwShutdown s) := by
  rcases hwShutdown_cases s with ⟨-, -, h⟩ | ⟨-, h⟩ <;> rw [h]
  · exact keepsPending_of_raised rfl rfl
  · exact keepsPending_of_eq rfl rfl

theorem latchEffect_keepsPending (h : List Nat) (a : Bool) (s : State) : KeepsPending s (latchEffect h a s) := by
  cases hb : anyBreach h a with
  | false =>
    rw [latchEffect_of_none hb]
    exact keepsPending_of_eq rfl rfl
  | true =>
    rw [latchEffect_of_breach hb]
    exact keepsPending_of_raised rfl rfl

theorem tripEffect_keepsPending (h : List Nat) (a : Bool) (s : State) : KeepsPending s (tripEffect h a s) := by
  rw [tripEffect_eq]
  cases anyBreach h a with
  | false => exact keepsPending_of_eq rfl rfl
  | true => exact keepsPending_of_raised rfl rfl

theorem protCheck_keepsPending (s : State) : KeepsPending s (protCheck s) := by
  unfold protCheck
  split
  · rcases protEval_cases s with ⟨-, h⟩ | ⟨-, -, h⟩ | ⟨-, -, h⟩ <;> rw [h]
    · exact keepsPending_of_eq rfl rfl
    · exact latchEffect_keepsPending _ _ s
    · exact tripEffect_keepsPending _ _ s
  · exact keepsPending_of_eq rfl rfl

theorem compStep_keepsPending {x : Int} (h : compStep x s = .ok t) : KeepsPending s t := by
  rw [compStep_ok h]
  exact keepsPending_of_eq rfl rfl

theorem gdStep_keepsPending (e : Int) (s : State) : KeepsPending s (gdStep e s) := by
  rw [gdStep_eq]
  exact keepsPending_of_eq rfl rfl

theorem tickReference_keepsPending (s : State) : KeepsPending s (tickReference s) := by
  rw [tickReference_eq]
  exact keepsPending_of_eq rfl rfl

theorem controlTick_keepsPending (s : State) : KeepsPending s (controlTick s) := by
  have href := tickReference_keepsPending s
  rcases controlTick_cases s with ⟨-, h⟩ | ⟨-, -, h⟩ | ⟨-, -, h⟩ <;> rw [h]
  · exact keepsPending_of_eq rfl rfl
  · rcases settle_cases s (compStep (controlError (tickReference s)) (tickReference s)) with
      ⟨t, ht, e⟩ | ⟨k, -, e⟩ <;> rw [e]
    · exact href.trans (compStep_keepsPending ht)
    · exact recordError_keepsPending k s
  · exact href.trans (gdStep_keepsPending _ _)

theorem sensed_keepsPending (s : State) : KeepsPending s (sensed s) := by
  have hshut := hwShutdown_keepsPending (countTick s)
  rw [sensed_eq]
  exact ⟨BitVec.and_self, hshut.events⟩

/-- Each phase of a tick keeps what is pending, and so does the tick. -/
theorem tickStep_keepsPending (s : State) : KeepsPending s (tickStep s) :=
  ((sensed_keepsPending s).trans (protCheck_keepsPending _)).trans (controlTick_keepsPending _)

theorem Effect.keepsPending {i : Instr} (h : Effect s i t) : KeepsPending s t := by
  cases h with
  | raised e => exact recordError_keepsPending e s
  | tick => exact tickStep_keepsPending s
  | pchk => exact protCheck_keepsPending s
  | pshdArmed r k => exact keepsPending_of_raised rfl rfl
  | cstep x r u hu => exact (compStep_keepsPending hu).trans (keepsPending_of_eq rfl rfl)
  | gstep e => exact (gdStep_keepsPending e s).trans (keepsPending_of_eq rfl rfl)
  | _ => exact keepsPending_of_eq rfl rfl

/-- No command writes `IRQ_EN` (R28). -/
theorem Effect.irqEn {i : Instr} (h : Effect s i t) : t.irqEn = s.irqEn := by
  cases h with
  | tick => rw [tickStep_eq]
  | pchk => rw [protCheck_eq]
  | cstep x r u hu =>
    rw [compStep_ok hu]
    rfl
  | gstep e =>
    rw [gdStep_eq]
    rfl
  | _ => rfl

end Pending

/-! ### The writes that clear or mask -/

section Writes

variable {r : Reg}

theorem writeReg_err_of_ne (h : r ≠ .status) (v : Word) (s : State) :
    (writeReg r v s).status.err = s.status.err := by
  cases r with
  | status => exact absurd rfl h
  | _ => rfl

theorem writeReg_events_of_ne (h : r ≠ .events) (v : Word) (s : State) : (writeReg r v s).events = s.events := by
  cases r with
  | events => exact absurd rfl h
  | _ => rfl

theorem writeReg_irqEn_of_ne (h : r ≠ .irqEn) (v : Word) (s : State) : (writeReg r v s).irqEn = s.irqEn := by
  cases r with
  | irqEn => exact absurd rfl h
  | _ => rfl

/-- A register stands at its offset alone (R83). -/
theorem addr_of_regAt {p : Params} {a b : Addr} (h : regAt p a = some r) (hb : r.offset = b.toNat) : a = b :=
  BitVec.eq_of_toNat_eq ((offset_of_regAt h).symm.trans hb)

end Writes

/-! ### One agent step -/

section Steps

variable {s t : State} {st : Stimulus} {rest : List Stimulus}

/-- A bit field that every operation keeps, and that only the write of the register `q` at `b` can clear, loses no bit
in a step that does not write `b`; reset apart. -/
theorem agentStep_sticky {n : Nat} (F : State → BitVec n) (q : Reg) (b : Addr) (hq : q.offset = b.toNat)
    (keeps : ∀ u v, KeepsPending u v → F u &&& F v = F u)
    (write : ∀ r v u, r ≠ q → F (writeReg r v u) = F u)
    (hi : s.inputs = st :: rest) (h : step s = .next t) (hr : st.resets = false) (hw : st.writes b = false) :
    F s &&& F t = F s := by
  refine agentStep_keeps (P := fun u => F s &&& F u = F s) hi h ?transfer ?record ?write ?command ?tick ?reset
    BitVec.and_self
  case transfer => exact fun _ _ _ _ hu => and_eq_left_trans hu (keeps _ _ (keepsPending_of_eq rfl rfl))
  case record => exact fun e u hu => and_eq_left_trans hu (keeps _ _ (recordError_keepsPending e u))
  case command => exact fun _ _ _ _ _ he hu => and_eq_left_trans hu (keeps _ _ he.keepsPending)
  case tick => exact fun u _ hu => and_eq_left_trans hu (keeps _ _ (tickStep_keepsPending u))
  case reset => exact fun _ ha => absurd ha (of_decide_eq_false hr)
  case write =>
    intro a v r u ha hat hu
    have hne : r ≠ q := by
      rintro rfl
      simp [Stimulus.writes, ha, addr_of_regAt hat hq] at hw
    rwa [write r v u hne]

/-- R273: an `ERR_*` bit stays until `STATUS` is written. -/
theorem step_err_sticky (hi : s.inputs = st :: rest) (h : step s = .next t) (hr : st.resets = false)
    (hw : st.writes 0x010#13 = false) : s.status.err &&& t.status.err = s.status.err :=
  agentStep_sticky (fun u => u.status.err) .status _ rfl (fun _ _ hk => hk.err)
    (fun _ v u hne => writeReg_err_of_ne hne v u) hi h hr hw

/-- R27: an event stays until `EVENTS` is written. -/
theorem step_events_sticky (hi : s.inputs = st :: rest) (h : step s = .next t) (hr : st.resets = false)
    (hw : st.writes 0x014#13 = false) : s.events &&& t.events = s.events :=
  agentStep_sticky State.events .events _ rfl (fun _ _ hk => hk.events)
    (fun _ v u hne => writeReg_events_of_ne hne v u) hi h hr hw

/-- R28: only the write of `IRQ_EN` changes which events are enabled. -/
theorem step_irqEn_frame (hi : s.inputs = st :: rest) (h : step s = .next t) (hr : st.resets = false)
    (hw : st.writes 0x018#13 = false) : t.irqEn = s.irqEn :=
  hostRegister_frame State.irqEn .irqEn _ (fun _ _ _ _ => rfl) (fun _ _ => rfl)
    (fun _ v u hne => writeReg_irqEn_of_ne hne v u) (fun _ _ hat => addr_of_regAt hat rfl)
    (fun _ _ _ he => he.irqEn) hi h hr hw

end Steps

/-! ### The interrupt line -/

theorem irqO_iff (s : State) : irqO s = true ↔ s.events &&& s.irqEn ≠ 0#3 := decide_eq_true_iff

/-- Settles O49: the line is the intersection of events and enables; the enables stay, and no event is lost. -/
theorem errorsAndEventsAreSticky : Obligations.ErrorsAndEventsAreSticky := by
  refine ⟨fun s => (irqO_iff s).trans and_ne_zero_iff_exists_getLsbD, fun s t st rest hi h hr => ?_⟩
  refine ⟨step_err_sticky hi h hr, step_events_sticky hi h hr, fun hevents henable hline => ?_⟩
  rw [irqO_iff] at hline ⊢
  rw [step_irqEn_frame hi h hr henable]
  exact and_ne_zero_of_contains (step_events_sticky hi h hr hevents) hline

end Sys2Proof.Machine
end

section
/-!
Reset: the state it starts from serves `CSTEP` and `CRST` at once (70_reset_and_hazards.md R301), and the reset step
writes every piece of PCK's state and drives the pins low (R300).
-/

namespace Sys2Proof.Machine

/-! ### The reset compensator -/

/-- The reset compensator is the one of R204. -/
theorem comp_reset_identity (p : Params) : (Comp.reset p).Identity := ⟨rfl, rfl, rfl, rfl⟩

/-- The reset histories are those that `CRST` seeds (R210, R76). -/
theorem exec_crst_resetWith (p : Params) : exec .crst (State.resetWith p) = .next (State.resetWith p) := exec_crst _

/-- `CSTEP` under the identity compensator answers its input and raises nothing (R204). -/
theorem exec_cstep_of_identity {s : State} {x : Int} (hp : s.params.Legal) (h : s.comp.Identity)
    (hx : -32768 ≤ x ∧ x ≤ 32767) :
    ∃ t, exec (.cstep x) s = .next t ∧ sext t.result = x ∧ t.status = s.status ∧ t.events = s.events := by
  obtain ⟨-, -, -, hden⟩ := id h
  have hexec := exec_cstep_of_ok (compStep_of_legal (x := x) (h.lengthsLegal hp) (by rw [hden]; decide))
  rw [compOut_of_identity hp h hx] at hexec
  exact ⟨_, hexec, sext_ofInt32 x (by omega) (by omega), rfl, rfl⟩

/-- Settles O51: the invariants are `inv_resetWith`; the compensator is the identity, with its histories seeded. -/
theorem resetHasEveryInvariant : Obligations.ResetHasEveryInvariant := by
  rintro p s hp rfl
  have hid : (State.resetWith p).comp.Identity := comp_reset_identity p
  obtain ⟨hnum, hden⟩ := hid.lengthsLegal hp
  obtain ⟨-, -, -, hden0⟩ := id hid
  exact ⟨inv_resetWith hp, hnum, hden, by rw [hden0]; decide,
    fun _ hlo hhi => exec_cstep_of_identity hp hid ⟨hlo, hhi⟩, exec_crst_resetWith p⟩

/-! ### The reset step -/

/-- The step that asserts reset is the reset of the presented state. -/
theorem step_of_reset {s : State} {p : Ports} {rest : List Stimulus}
    (hi : s.inputs = { ports := p, action := .reset } :: rest) :
    step s = .next (resetStep (present { ports := p, action := .reset } rest s)) :=
  step_of_done (nextWork_of_inputs hi)

/-- With every output and the PWM disabled, the actuator pins are low (R285). -/
theorem pinsOff_of_disabled {s : State} (hout : s.prot.outEn = 0#16) (hpwm : s.ctrl.pwmEn = false) : PinsOff s :=
  ⟨fun o => by simp [outO, hout], by simp [pwmEnO, hpwm]⟩

/-- With no event pending the interrupt line is low (R280). -/
theorem irqO_of_noEvent {s : State} (h : s.events = 0#3) : irqO s = false := by
  simp [irqO, h]

/-- Settles O59: the step is `resetStep`, which disables every output, clears the events and sets `DUTY` to `S`. -/
theorem resetStepGivesTheResetState : Obligations.ResetStepGivesTheResetState := by
  intro s p rest hi
  obtain ⟨hout, hpwm⟩ : PinsOff (resetStep (present { ports := p, action := .reset } rest s)) :=
    pinsOff_of_disabled rfl rfl
  exact ⟨_, step_of_reset hi, rfl, hout, hpwm, irqO_of_noEvent rfl, rfl⟩

end Sys2Proof.Machine
end
